-- ==== Sys2Proof/Word.lean ====
section
/-! DEFINITION. The widths of the block's values (R13, R92, R93, R95): bytes, ports, transaction
words, PCI slots and function indices, and a 256-byte register file. -/

namespace Sys2Proof

/-- One register, index or data value (R13). -/
abbrev Byte := BitVec 8

/-- An I/O port number, or a window base (R13, R61). -/
abbrev Port := BitVec 16

/-- A transaction word (R90). -/
abbrev Word := BitVec 32

/-- A PCI device number 0..31 (R93). -/
abbrev Slot := BitVec 5

/-- A PCI function index 0..7 (R93). -/
abbrev FnIndex := BitVec 3

/-- A physical address of the governed range, 20 bits (R40). -/
abbrev PhysAddr := BitVec 20

/-- A register file or a PCI configuration space: 256 bytes addressed by one byte (R13). -/
abbrev RegFile := Vector Byte 256

end Sys2Proof
end

