-- ==== Sys2Proof/Config.lean ====
section
/-! DEFINITION. What is fixed for one machine: the constants of R10, the parameters of R11 and their
well-formedness (R12), and the two free values: the OPEN parameters and the outcome of a
construction (R255). -/

namespace Sys2Proof

/-- The three PCI configuration units (R26): host bridge, bridge, storage controller. -/
inductive PciUnit where
  | hb
  | br
  | st
  deriving DecidableEq, Repr

/-- The three chip revisions (R3), the parameter VARIANT. -/
inductive Variant where
  | rev0
  | rev1
  | rev2
  deriving DecidableEq, Repr, Inhabited

/-- The identity bytes of one unit, one field per identity address of R222. -/
structure IdBytes where
  b00 : Byte
  b01 : Byte
  b02 : Byte
  b03 : Byte
  b08 : Byte
  b09 : Byte
  b0A : Byte
  b0B : Byte
  b0E : Byte
  deriving DecidableEq, Repr, Inhabited

/-- The identity bytes of the three units, for one variant (R222). -/
structure UnitIds where
  hb : IdBytes
  br : IdBytes
  st : IdBytes
  deriving DecidableEq, Repr, Inhabited

/-- A configuration address with the mask a write to it is ANDed with (R227). -/
structure MaskedAddr where
  addr : Byte
  mask : Byte
  deriving DecidableEq, Repr, Inhabited

/-- The parameter set of R11. `PCI_CMD`, `CMD_MASK(BR)` and `CMD_MASK(ST)` are constants below
(log 10). -/
structure Params where
  /-- VARIANT, read only through the identity bytes (R3). -/
  variant : Variant
  /-- ISA_MASK: the mask of each address that R151 does not name. -/
  isaMask : RegFile
  /-- ISA_RO: the read-only primary addresses (R152). -/
  isaRo : List Byte
  /-- SHADOW28_MASK (R151). -/
  shadow28Mask : Byte
  /-- SMRAM_REG: the primary register whose write forwards its top bit (R157, R188; log 21). -/
  smramReg : Byte
  /-- SMRAM_CTX, SMRAM_BASE, SMRAM_SIZE: the arguments of the SMRAM forward (R188). -/
  smramCtx : Nat
  smramBase : Nat
  smramSize : Nat
  /-- SLOT_HB, SLOT_BR, SLOT_ST (R220). -/
  slotHb : Slot
  slotBr : Slot
  slotSt : Slot
  /-- PCI_ID for each variant (R222). -/
  ids0 : UnitIds
  ids1 : UnitIds
  ids2 : UnitIds
  /-- CMD_MASK(HB) (R226). -/
  cmdMaskHb : Byte
  /-- HB_RO_EXTRA: two addresses (R225). -/
  hbRoExtra0 : Byte
  hbRoExtra1 : Byte
  /-- HB_MASKED: two addresses with their masks (R227). -/
  hbMasked0 : MaskedAddr
  hbMasked1 : MaskedAddr
  /-- RESET_RECALC: whether a reset forwards SMRAM off and recalculates (R272). -/
  resetRecalc : Bool
  deriving DecidableEq, Repr

namespace Config

/-- ISA_INDEX_PORT (R10). -/
def isaIndexPort : Port := 0x0022
/-- ISA_DATA_PORT (R10). -/
def isaDataPort : Port := 0x0023
/-- The ports the primary window claims (R27, R270). -/
def primarySpan : Nat := 2
/-- WIN_SPAN (R10). -/
def winSpan : Nat := 5
/-- WIN_DATA_OFF (R10). -/
def winDataOff : Nat := 4
/-- The highest base a window may have without running past port 0xFFFF (R202). -/
def maxBase : Port := 0xFFFB
/-- SENTINEL, the all-ones value of undefined reads (R10, R253). -/
def sentinel : Byte := 0xFF
/-- MODE_REG (R10). -/
def modeReg : Byte := 0x10
/-- MODE_LOCAL (R10). -/
def modeLocal : Byte := 0x06
/-- MODE_HOST (R10). -/
def modeHost : Byte := 0x07
/-- BASE_LO_REG (R10). -/
def baseLoReg : Byte := 0x12
/-- BASE_HI_REG (R10). -/
def baseHiReg : Byte := 0x13
/-- RESET_FF_REG, forced to all ones by reset (R10, R272). -/
def resetFfReg : Byte := 0x7B
/-- PCI_CMD, the command register's address (R11, R226); PRESUMED by the spec from the PCI
convention (log 10). -/
def pciCmd : Byte := 0x04
/-- CMD_MASK(BR) and CMD_MASK(ST): the I/O-space-enable bit (R226; log 10). -/
def cmdMaskBridgeStorage : Byte := 0x01

/-- RO_BASE, the read-only addresses common to the three units (R224). -/
def roBase : List Byte :=
  [0x00, 0x01, 0x02, 0x03, 0x05, 0x06, 0x07, 0x08, 0x09, 0x0A, 0x0B, 0x0E]

/-- The primary addresses whose write has a side effect or steers one; none may be in ISA_RO (R12). -/
def sideEffecting : List Byte :=
  [0x10, 0x12, 0x13, 0x25, 0x26, 0x27, 0x28]

end Config

/-- The four host-bridge addresses of HB_RO_EXTRA and HB_MASKED. -/
def Params.hbAddrs (p : Params) : List Byte :=
  [p.hbRoExtra0, p.hbRoExtra1, p.hbMasked0.addr, p.hbMasked1.addr]

/-- Well-formedness of a parameter set, clause by clause of R12: three distinct slots; four distinct
host-bridge addresses, none read-only for all units and none the command register; no
side-effecting primary address read-only. -/
def Params.wf (p : Params) : Bool :=
  decide [p.slotHb, p.slotBr, p.slotSt].Nodup
  && decide p.hbAddrs.Nodup
  && p.hbAddrs.all (fun a => !Config.roBase.contains a && a != Config.pciCmd)
  && p.isaRo.all (fun a => !Config.sideEffecting.contains a)

/-- The test parameters TP of 95_test_vectors.md section 0, with identity bytes of zero. The spec
chose them "only so that words can be written out"; here they show that a well-formed set exists,
and the tests use them. They are not the machine's parameters. -/
def Params.test : Params where
  variant := .rev0
  isaMask := Vector.replicate 256 0xFF
  isaRo := []
  shadow28Mask := 0x83
  smramReg := 0x28
  smramCtx := 0
  smramBase := 0
  smramSize := 0
  slotHb := 0
  slotBr := 1
  slotSt := 2
  ids0 := default
  ids1 := default
  ids2 := default
  cmdMaskHb := 0x07
  hbRoExtra0 := 0x50
  hbRoExtra1 := 0x51
  hbMasked0 := { addr := 0x52, mask := 0x0F }
  hbMasked1 := { addr := 0x53, mask := 0x3F }
  resetRecalc := false

/-- A parameter set together with its well-formedness (R12). -/
structure ParameterSet where
  params : Params := Params.test
  wf : params.wf = true := by decide
  deriving Inhabited

namespace Config

/-- The machine's parameters: a well-formed set of which nothing else is known (R11: OPEN, no claim
may assume a value). Free value, log 3. -/
opaque parameters : ParameterSet

/-- The parameters of the machine that `State.reset` is a state of: the OPEN ones free, and the four
that R11 decides (ISA_MASK 0xFF, ISA_RO empty, SHADOW28_MASK 0x83, SMRAM_REG 0x28) at the decided
value. -/
def params : Params :=
  { parameters.params with
    isaMask := Vector.replicate 256 0xFF
    isaRo := []
    shadow28Mask := 0x83
    smramReg := 0x28 }

/-- The outcome of the n-th construction: true for success, false for an allocation failure. R255
calls it a draw. Free value, log 4. -/
opaque constructionSucceeds : Nat → Bool

end Config

end Sys2Proof
end

