-- ==== Sys2Proof/Machine/Types.lean ====
section
/-! DEFINITION. The small types of the state: the lifecycle phase, windows, the access state of a
region, the SMRAM status, collaborator calls and read results. -/

namespace Sys2Proof.Machine

/-- The lifecycle phase (R31). -/
inductive Phase where
  | absent
  | live
  | failed
  | destroyed
  deriving DecidableEq, Repr

/-- The two relocatable windows (R24, R25). -/
inductive WindowId where
  | hostBus
  | localBus
  deriving DecidableEq, Repr

/-- Who owns a port claim or registration (R40, R62). -/
inductive Owner where
  | primary
  | hostBus
  | localBus
  deriving DecidableEq, Repr

/-- The owner a window's registrations and claims name. -/
def WindowId.owner : WindowId → Owner
  | .hostBus => .hostBus
  | .localBus => .localBus

/-- Which byte of a window base a write replaces (R202). -/
inductive BaseByte where
  | lo
  | hi
  deriving DecidableEq, Repr

/-- The read mode of a region (R28). -/
inductive ReadMode where
  | readInternal
  | readPassthrough
  deriving DecidableEq, Repr

/-- The write mode of a region (R28). -/
inductive WriteMode where
  | writeInternal
  | writePassthrough
  deriving DecidableEq, Repr

/-- The access state last applied to a region, or unknown: no recalculation since construction (R28). -/
inductive RegionStatus where
  | unknown
  | applied (rd : ReadMode) (wr : WriteMode)
  deriving DecidableEq, Repr

/-- The SMRAM visibility last forwarded, or unknown: no forward yet (R29). -/
inductive SmramStatus where
  | unknown
  | forwarded (en : Bool)
  deriving DecidableEq, Repr

/-- The calls the block makes on its collaborators, one constructor per row of R40. -/
inductive Effect where
  | regionSet (base : PhysAddr) (size : Nat) (rd : ReadMode) (wr : WriteMode)
  | smramSet (ctx : Nat) (base : Nat) (size : Nat) (en : Bool)
  | invalidate
  | portReg (base : Port) (count : Nat) (owner : Owner)
  | portUnreg (base : Port) (count : Nat) (owner : Owner)
  | pciReg (slot : Slot) (unit : PciUnit)
  | pciRelease (slot : Slot)
  deriving DecidableEq, Repr

/-- What a read transaction answers: a byte, or no response of this block (R16, R64). -/
inductive ReadResult where
  | byte (v : Byte)
  | noResponse
  deriving DecidableEq, Repr

/-- A relocatable window: its base, its index and its raw registers (R24, R25). -/
structure Window where
  base : Port
  index : Byte
  reg : RegFile
  deriving DecidableEq, Repr

/-- The configuration spaces of the three units (R26). -/
structure PciSpaces where
  hb : RegFile
  br : RegFile
  st : RegFile
  deriving DecidableEq, Repr

/-- The block's own record, the nine fields of R20 (the two windows hold three each). It is also what
is persisted for save and restore (R42). -/
structure ChipState where
  isaIndex : Byte
  isaRegisters : RegFile
  hostWin : Window
  localWin : Window
  pci : PciSpaces
  deriving DecidableEq, Repr

/-- The four shadow-control bytes 0x25, 0x26, 0x27, 0x28 (R180). -/
structure ShadowBytes where
  c : Byte
  d : Byte
  e : Byte
  f : Byte
  deriving DecidableEq, Repr

/-- One row of the region table of R181: its number, base, size, control byte and bit positions. -/
structure RegionRow where
  k : Fin 13
  base : PhysAddr
  size : Nat
  ctrl : Byte
  weBit : Nat
  reBit : Nat
  deriving DecidableEq, Repr

/-- The write class of a primary register (R101). -/
inductive PrimaryClass where
  | ro
  | modesel
  | baselo
  | basehi
  | shadow
  | smram
  | masked
  | plain
  deriving DecidableEq, Repr

/-- The write class of a configuration address at function index 0 (R102, R228). -/
inductive PciClass where
  | ro
  | cmd
  | hbmask
  | plain
  deriving DecidableEq, Repr

end Sys2Proof.Machine
end

