-- ==== Sys2Proof/Machine/RegFile.lean ====
section
/-! DEFINITION. Reading and writing one byte of a register file, of a PCI configuration space. -/

namespace Sys2Proof

/-- The byte at address `a` (R15: `isa[a]`, `W.reg[a]`, `pci[U][a]`). -/
def RegFile.read (f : RegFile) (a : Byte) : Byte :=
  f[a.toNat]'a.isLt

/-- The file with byte `a` replaced (R15: `isa[a] <- v`). -/
def RegFile.write (f : RegFile) (a v : Byte) : RegFile :=
  f.set a.toNat v a.isLt

/-- A register file of zeros (R39). -/
def RegFile.zero : RegFile :=
  Vector.replicate 256 0

namespace Machine

/-- A disabled window with all its bytes zero (R39). -/
def Window.zero : Window where
  base := 0
  index := 0
  reg := RegFile.zero

/-- The configuration space of one unit (R26). -/
def PciSpaces.space (s : PciSpaces) : PciUnit → RegFile
  | .hb => s.hb
  | .br => s.br
  | .st => s.st

/-- Byte `a` of unit `u`: `pci[U][a]` (R15). -/
def PciSpaces.read (s : PciSpaces) (u : PciUnit) (a : Byte) : Byte :=
  RegFile.read (s.space u) a

/-- The spaces with byte `a` of unit `u` replaced: `pci[U][a] <- v` (R15, R221). -/
def PciSpaces.write (s : PciSpaces) (u : PciUnit) (a v : Byte) : PciSpaces :=
  match u with
  | .hb => { s with hb := RegFile.write s.hb a v }
  | .br => { s with br := RegFile.write s.br a v }
  | .st => { s with st := RegFile.write s.st a v }

end Machine

end Sys2Proof
end

