-- ==== Sys2Proof/Machine/Operands.lean ====
section
/-! DEFINITION. The pure policies that select and shape an operand: the masks and write classes of the
primary registers, the window selector and base assembly, port claims, PCI write classes, and which
unit a slot names. Nothing here reads State. -/

namespace Sys2Proof

namespace Machine

/-- The mask of a primary register (R151); addresses the table does not name take ISA_MASK. -/
def primaryMask (p : Params) (a : Byte) : Byte :=
  if a = 0x10 ∨ a = 0x12 ∨ a = 0x13 then 0xFF
  else if a = 0x21 then 0xFE
  else if a = 0x22 then 0x7F
  else if a = 0x25 ∨ a = 0x26 ∨ a = 0x27 then 0xFF
  else if a = 0x28 then p.shadow28Mask
  else if a = 0x29 then 0x0F
  else if a = 0x36 then 0x3F
  else RegFile.read p.isaMask a

/-- The write class of a primary data write at index `a`, first match wins (R101). Order 7 reads
ISA_MASK as the mask of R151 (DEDUCED, log 9). Orders 5 and 6 are the table's with SMRAM_REG for its
0x28; a shadow-control register that is not SMRAM_REG is of the shadow class (log 21). -/
def primaryClass (p : Params) (a : Byte) : PrimaryClass :=
  if p.isaRo.contains a then .ro
  else if a = Config.modeReg then .modesel
  else if a = Config.baseLoReg then .baselo
  else if a = Config.baseHiReg then .basehi
  else if (a = 0x25 ∨ a = 0x26 ∨ a = 0x27 ∨ a = 0x28) ∧ a ≠ p.smramReg then .shadow
  else if a = p.smramReg then .smram
  else if primaryMask p a ≠ 0xFF then .masked
  else .plain

/-- The window selector from the mode-select byte (R33): the window the next base-byte write moves. -/
def windowSelector (mode : Byte) : Option WindowId :=
  if mode = Config.modeLocal then some .localBus
  else if mode = Config.modeHost then some .hostBus
  else none

/-- The base with one byte replaced, the other kept (R202, R67). -/
def newBase (old : Port) (which : BaseByte) (b : Byte) : Port :=
  match which with
  | .lo => old.extractLsb' 8 8 ++ b
  | .hi => b ++ old.extractLsb' 0 8

/-- The claim of a window at `base` on port `p`, with the offset, computed without wrap (R62). -/
def windowClaim (w : WindowId) (base p : Port) : List (Owner × Nat) :=
  if base ≠ 0 ∧ base.toNat ≤ p.toNat ∧ p.toNat - base.toNat < Config.winSpan then
    [(w.owner, p.toNat - base.toNat)]
  else []

/-- The claims on port `p`, for the two window bases (R62). -/
def portClaims (hostBase localBase p : Port) : List (Owner × Nat) :=
  (if p = Config.isaIndexPort then [(.primary, 0)] else [])
  ++ (if p = Config.isaDataPort then [(.primary, 1)] else [])
  ++ windowClaim .hostBus hostBase p
  ++ windowClaim .localBus localBase p

/-- The slot of a unit (R220). -/
def slotOf (p : Params) : PciUnit → Slot
  | .hb => p.slotHb
  | .br => p.slotBr
  | .st => p.slotSt

/-- The unit at a slot, if any (R65, R102). In a well-formed set the three slots differ. -/
def unitAt (p : Params) (s : Slot) : Option PciUnit :=
  if s = p.slotHb then some .hb
  else if s = p.slotBr then some .br
  else if s = p.slotSt then some .st
  else none

/-- RO(U): the read-only addresses of a unit (R228). -/
def pciReadOnly (p : Params) (u : PciUnit) (a : Byte) : Bool :=
  Config.roBase.contains a
  || (decide (u = .hb) && (decide (a = p.hbRoExtra0) || decide (a = p.hbRoExtra1)))

/-- CMD_MASK(U) (R226). -/
def commandMask (p : Params) : PciUnit → Byte
  | .hb => p.cmdMaskHb
  | .br => Config.cmdMaskBridgeStorage
  | .st => Config.cmdMaskBridgeStorage

/-- HB_MASKED as a partial map: the mask of a host-bridge masked address (R227). -/
def hbMask (p : Params) (a : Byte) : Option Byte :=
  if a = p.hbMasked0.addr then some p.hbMasked0.mask
  else if a = p.hbMasked1.addr then some p.hbMasked1.mask
  else none

/-- The write class of address `a` of unit `u` at function index 0, first match wins (R102, R228). -/
def pciClass (p : Params) (u : PciUnit) (a : Byte) : PciClass :=
  if pciReadOnly p u a then .ro
  else if a = Config.pciCmd then .cmd
  else if u = .hb ∧ (hbMask p a).isSome then .hbmask
  else .plain

/-- The identity bytes of a unit, for the machine's variant (R222). -/
def unitIds (p : Params) (u : PciUnit) : IdBytes :=
  let ids := match p.variant with
    | .rev0 => p.ids0
    | .rev1 => p.ids1
    | .rev2 => p.ids2
  match u with
  | .hb => ids.hb
  | .br => ids.br
  | .st => ids.st

/-- `pci[U][a]` right after construction: PCI_ID at the nine identity addresses, 0x00 elsewhere (R222). -/
def constructionByte (p : Params) (u : PciUnit) (a : Byte) : Byte :=
  let i := unitIds p u
  if a = 0x00 then i.b00
  else if a = 0x01 then i.b01
  else if a = 0x02 then i.b02
  else if a = 0x03 then i.b03
  else if a = 0x08 then i.b08
  else if a = 0x09 then i.b09
  else if a = 0x0A then i.b0A
  else if a = 0x0B then i.b0B
  else if a = 0x0E then i.b0E
  else 0x00

/-- The identity addresses ID (R222). -/
def identityAddrs : List Byte :=
  [0x00, 0x01, 0x02, 0x03, 0x08, 0x09, 0x0A, 0x0B, 0x0E]

/-- A unit's configuration space right after construction: all zero, then each identity byte (R270). -/
def constructionSpace (p : Params) (u : PciUnit) : RegFile :=
  identityAddrs.foldl (fun f a => RegFile.write f a (constructionByte p u a)) RegFile.zero

/-- The three configuration spaces right after construction (R270). -/
def constructionPci (p : Params) : PciSpaces where
  hb := constructionSpace p .hb
  br := constructionSpace p .br
  st := constructionSpace p .st

/-- The block's record right after construction (R270, R39). -/
def constructionChip (p : Params) : ChipState where
  isaIndex := 0
  isaRegisters := RegFile.zero
  hostWin := Window.zero
  localWin := Window.zero
  pci := constructionPci p

/-- The primary register file right after a system reset (R272). -/
def resetRegisters : RegFile :=
  RegFile.write RegFile.zero Config.resetFfReg 0xFF

/-- The registrations a construction makes, in order (R270). -/
def powerOnEffects (p : Params) : List Effect :=
  [.portReg Config.isaIndexPort Config.primarySpan .primary,
   .pciReg p.slotHb .hb, .pciReg p.slotBr .br, .pciReg p.slotSt .st]

/-- The effects of a relocation from `old` to `new`, unregister first (R200, R203). -/
def relocateEffects (w : WindowId) (old new : Port) : List Effect :=
  (if old ≠ 0 then [.portUnreg old Config.winSpan w.owner] else [])
  ++ (if new ≠ 0 then [.portReg new Config.winSpan w.owner] else [])

/-- The effects of a teardown, for the two window bases (R273). -/
def teardownEffects (p : Params) (hostBase localBase : Port) : List Effect :=
  (if hostBase ≠ 0 then [.portUnreg hostBase Config.winSpan .hostBus] else [])
  ++ (if localBase ≠ 0 then [.portUnreg localBase Config.winSpan .localBus] else [])
  ++ [.portUnreg Config.isaIndexPort Config.primarySpan .primary,
      .pciRelease p.slotHb, .pciRelease p.slotBr, .pciRelease p.slotSt]

end Machine

end Sys2Proof
end

