-- ==== Sys2Proof/Syntax.lean ====
section
/-! DEFINITION. Transactions as a word alone gives them (R91 to R94), and instructions: the rows of
spec/opcode_table.json, one constructor each, with the operands of the row's rule. -/

namespace Sys2Proof

/-- What a valid transaction word says before the state is consulted (R91 to R95). -/
inductive Transaction where
  | ior (p : Port)
  | iow (p : Port) (v : Byte)
  | cfgr (s : Slot) (fn : FnIndex) (a : Byte)
  | cfgw (s : Slot) (fn : FnIndex) (a : Byte) (v : Byte)
  | poweron
  | reset
  | destroy
  deriving DecidableEq, Repr

/-- An I/O access to a port with two or more claims, read or write (R139). -/
inductive IoAccess where
  | read (p : Port)
  | write (p : Port) (v : Byte)
  deriving DecidableEq, Repr

/-- One row of the opcode table (R103). A PCI row that a unit answers names the unit, the operand its
rule gives it (R229 to R235); its word holds the unit's slot. -/
inductive Instr where
  -- primary window (R121 to R123, R153 to R160)
  | iorIsaIndex
  | iowIsaIndex (v : Byte)
  | iorIsaData
  | iowIsaDataRo (v : Byte)
  | iowIsaDataModesel (v : Byte)
  | iowIsaDataBaselo (v : Byte)
  | iowIsaDataBasehi (v : Byte)
  | iowIsaDataShadow (v : Byte)
  | iowIsaDataSmram (v : Byte)
  | iowIsaDataMasked (v : Byte)
  | iowIsaDataPlain (v : Byte)
  -- host-bus window (R125 to R130)
  | iorHostIndex (p : Port)
  | iowHostIndex (p : Port) (v : Byte)
  | iorHostData (p : Port)
  | iowHostData (p : Port) (v : Byte)
  | iorHostGap (p : Port)
  | iowHostGap (p : Port) (v : Byte)
  -- local-bus window (R131 to R136)
  | iorLocalIndex (p : Port)
  | iowLocalIndex (p : Port) (v : Byte)
  | iorLocalData (p : Port)
  | iowLocalData (p : Port) (v : Byte)
  | iorLocalGap (p : Port)
  | iowLocalGap (p : Port) (v : Byte)
  -- ports the block does not own, and conflicts (R137 to R139)
  | iorUnclaimed (p : Port)
  | iowUnclaimed (p : Port) (v : Byte)
  | ioConflict (access : IoAccess)
  -- PCI configuration units (R229 to R237)
  | cfgrFn0 (u : PciUnit) (a : Byte)
  | cfgrFnx (u : PciUnit) (fn : FnIndex) (a : Byte)
  | cfgwFnx (u : PciUnit) (fn : FnIndex) (a : Byte) (v : Byte)
  | cfgwRo (u : PciUnit) (a : Byte) (v : Byte)
  | cfgwCmd (u : PciUnit) (v : Byte)
  | cfgwHbmask (a : Byte) (v : Byte)
  | cfgwPlain (u : PciUnit) (a : Byte) (v : Byte)
  | cfgrUnclaimed (s : Slot) (fn : FnIndex) (a : Byte)
  | cfgwUnclaimed (s : Slot) (fn : FnIndex) (a : Byte) (v : Byte)
  -- lifecycle (R270, R272, R273, R261)
  | poweron
  | reset
  | destroy
  | notLive (t : Transaction)
  deriving DecidableEq, Repr

end Sys2Proof
end

