-- ==== Sys2Proof/WellFormed.lean ====
section
/-! DEFINITION. Which instructions some word can stand for, whatever the state (given the machine's
parameters): the part of each row's condition in spec/opcode_table.json that the instruction's own
operands settle. The part that needs the state is `rowCondition` in Decode.lean. -/

namespace Sys2Proof

open Machine

/-- A port that the primary window does not claim (R61): a row that needs one claim, by a window, or
no claim at all is never at 0x22 or 0x23. -/
def offPrimary (p : Port) : Bool :=
  p != Config.isaIndexPort && p != Config.isaDataPort

/-- Whether an instruction's operands are ones its row allows. -/
def Instr.wellFormed (p : Params) : Instr → Bool
  | .iorIsaIndex => true
  | .iowIsaIndex _ => true
  | .iorIsaData => true
  | .iowIsaDataRo _ => true
  | .iowIsaDataModesel _ => true
  | .iowIsaDataBaselo _ => true
  | .iowIsaDataBasehi _ => true
  | .iowIsaDataShadow _ => true
  | .iowIsaDataSmram _ => true
  | .iowIsaDataMasked _ => true
  | .iowIsaDataPlain _ => true
  -- a window at base b != 0 claims b (index), b+4 (data), b+1..b+3 (gap): R62, R100
  | .iorHostIndex q => offPrimary q && decide (1 ≤ q.toNat)
  | .iowHostIndex q _ => offPrimary q && decide (1 ≤ q.toNat)
  | .iorHostData q => offPrimary q && decide (5 ≤ q.toNat)
  | .iowHostData q _ => offPrimary q && decide (5 ≤ q.toNat)
  | .iorHostGap q => offPrimary q && decide (2 ≤ q.toNat)
  | .iowHostGap q _ => offPrimary q && decide (2 ≤ q.toNat)
  | .iorLocalIndex q => offPrimary q && decide (1 ≤ q.toNat)
  | .iowLocalIndex q _ => offPrimary q && decide (1 ≤ q.toNat)
  | .iorLocalData q => offPrimary q && decide (5 ≤ q.toNat)
  | .iowLocalData q _ => offPrimary q && decide (5 ≤ q.toNat)
  | .iorLocalGap q => offPrimary q && decide (2 ≤ q.toNat)
  | .iowLocalGap q _ => offPrimary q && decide (2 ≤ q.toNat)
  | .iorUnclaimed q => offPrimary q
  | .iowUnclaimed q _ => offPrimary q
  | .ioConflict _ => true
  | .cfgrFn0 _ _ => true
  | .cfgrFnx _ fn _ => fn != 0
  | .cfgwFnx _ fn _ _ => fn != 0
  | .cfgwRo u a _ => pciClass p u a == .ro
  | .cfgwCmd _ _ => true
  | .cfgwHbmask a _ => pciClass p .hb a == .hbmask
  | .cfgwPlain u a _ => pciClass p u a == .plain
  | .cfgrUnclaimed s _ _ => (unitAt p s).isNone
  | .cfgwUnclaimed s _ _ _ => (unitAt p s).isNone
  | .poweron => true
  | .reset => true
  | .destroy => true
  | .notLive _ => true

end Sys2Proof
end

