-- ==== Sys2Proof/Decode.lean ====
section
/-! DEFINITION. Decode of a transaction word (R90 to R103), total on every word and in every state:
first the word alone (`parseWord`, R91 to R96), then the state (`decodeTransaction`, R99 to R102).
After it the encoder, from the same formats, and each row's condition. -/

namespace Sys2Proof

open Machine

/-- What decode reads of the state (R98): the phase, the primary index, the two window bases, the
parameters. -/
structure DecodeContext where
  phase : Phase
  isaIndex : Byte
  hostBase : Port
  localBase : Port
  params : Params
  deriving DecidableEq, Repr

/-- The answer of decode: one row of the opcode table, or an invalid word (R96, R98). -/
inductive DecodeResult where
  | instr (i : Instr)
  | invalidWord
  deriving DecidableEq, Repr

/-- The kind field `w[31:29]` (R91). -/
def kindField (w : Word) : BitVec 3 := w.extractLsb' 29 3
/-- The must-be-0 field `w[28:24]` of format IO (R92). -/
def ioZeroField (w : Word) : BitVec 5 := w.extractLsb' 24 5
/-- The port field `w[23:8]` of format IO (R92). -/
def portField (w : Word) : Port := w.extractLsb' 8 16
/-- The data field `w[7:0]` (R92, R93). -/
def dataField (w : Word) : Byte := w.extractLsb' 0 8
/-- The slot field `w[28:24]` of format CFG (R93). -/
def slotField (w : Word) : Slot := w.extractLsb' 24 5
/-- The function field `w[23:21]` of format CFG (R93). -/
def fnField (w : Word) : FnIndex := w.extractLsb' 21 3
/-- The must-be-0 field `w[20:16]` of format CFG (R93). -/
def cfgZeroField (w : Word) : BitVec 5 := w.extractLsb' 16 5
/-- The address field `w[15:8]` of format CFG (R93). -/
def addrField (w : Word) : Byte := w.extractLsb' 8 8
/-- The must-be-0 field `w[28:0]` of format LC (R94). -/
def lcZeroField (w : Word) : BitVec 29 := w.extractLsb' 0 29

/-- A word read without the state: its transaction, or none where it is invalid (R91 to R96). -/
def parseWord (w : Word) : Option Transaction :=
  if kindField w = 0b000 then
    if ioZeroField w = 0 ∧ dataField w = 0 then some (.ior (portField w)) else none
  else if kindField w = 0b001 then
    if ioZeroField w = 0 then some (.iow (portField w) (dataField w)) else none
  else if kindField w = 0b010 then
    if cfgZeroField w = 0 ∧ dataField w = 0 then
      some (.cfgr (slotField w) (fnField w) (addrField w))
    else none
  else if kindField w = 0b011 then
    if cfgZeroField w = 0 then
      some (.cfgw (slotField w) (fnField w) (addrField w) (dataField w))
    else none
  else if kindField w = 0b100 then
    if lcZeroField w = 0 then some .poweron else none
  else if kindField w = 0b101 then
    if lcZeroField w = 0 then some .reset else none
  else if kindField w = 0b110 then
    if lcZeroField w = 0 then some .destroy else none
  else none

/-- The row of an I/O read, from the claims on its port (R100). -/
def decodeIoRead (c : DecodeContext) (p : Port) : Instr :=
  match portClaims c.hostBase c.localBase p with
  | [] => .iorUnclaimed p
  | [(.primary, 0)] => .iorIsaIndex
  | [(.primary, _)] => .iorIsaData
  | [(.hostBus, 0)] => .iorHostIndex p
  | [(.hostBus, 4)] => .iorHostData p
  | [(.hostBus, _)] => .iorHostGap p
  | [(.localBus, 0)] => .iorLocalIndex p
  | [(.localBus, 4)] => .iorLocalData p
  | [(.localBus, _)] => .iorLocalGap p
  | _ :: _ :: _ => .ioConflict (.read p)

/-- The row of a primary data write, from the class of the selected register (R101). -/
def decodePrimaryWrite (c : DecodeContext) (v : Byte) : Instr :=
  match primaryClass c.params c.isaIndex with
  | .ro => .iowIsaDataRo v
  | .modesel => .iowIsaDataModesel v
  | .baselo => .iowIsaDataBaselo v
  | .basehi => .iowIsaDataBasehi v
  | .shadow => .iowIsaDataShadow v
  | .smram => .iowIsaDataSmram v
  | .masked => .iowIsaDataMasked v
  | .plain => .iowIsaDataPlain v

/-- The row of an I/O write, from the claims on its port (R100). -/
def decodeIoWrite (c : DecodeContext) (p : Port) (v : Byte) : Instr :=
  match portClaims c.hostBase c.localBase p with
  | [] => .iowUnclaimed p v
  | [(.primary, 0)] => .iowIsaIndex v
  | [(.primary, _)] => decodePrimaryWrite c v
  | [(.hostBus, 0)] => .iowHostIndex p v
  | [(.hostBus, 4)] => .iowHostData p v
  | [(.hostBus, _)] => .iowHostGap p v
  | [(.localBus, 0)] => .iowLocalIndex p v
  | [(.localBus, 4)] => .iowLocalData p v
  | [(.localBus, _)] => .iowLocalGap p v
  | _ :: _ :: _ => .ioConflict (.write p v)

/-- The row of a configuration read (R102). -/
def decodeCfgRead (c : DecodeContext) (s : Slot) (fn : FnIndex) (a : Byte) : Instr :=
  match unitAt c.params s with
  | none => .cfgrUnclaimed s fn a
  | some u => if fn = 0 then .cfgrFn0 u a else .cfgrFnx u fn a

/-- The row of a configuration write (R102). -/
def decodeCfgWrite (c : DecodeContext) (s : Slot) (fn : FnIndex) (a v : Byte) : Instr :=
  match unitAt c.params s with
  | none => .cfgwUnclaimed s fn a v
  | some u =>
    if fn = 0 then
      match pciClass c.params u a with
      | .ro => .cfgwRo u a v
      | .cmd => .cfgwCmd u v
      | .hbmask => .cfgwHbmask a v
      | .plain => .cfgwPlain u a v
    else .cfgwFnx u fn a v

/-- The row a valid word is, in a state (R98 to R102): in phase Live by its kind; POWERON in phase
Absent; NOT_LIVE otherwise. -/
def decodeTransaction (c : DecodeContext) (t : Transaction) : Instr :=
  match c.phase with
  | .live =>
    match t with
    | .ior p => decodeIoRead c p
    | .iow p v => decodeIoWrite c p v
    | .cfgr s fn a => decodeCfgRead c s fn a
    | .cfgw s fn a v => decodeCfgWrite c s fn a v
    | .poweron => .notLive .poweron
    | .reset => .reset
    | .destroy => .destroy
  | .absent => if t = .poweron then .poweron else .notLive t
  | .failed => .notLive t
  | .destroyed => .notLive t

/-- Decode of a word in a state: the invalid-word check comes first (R257), then the state. -/
def decode (c : DecodeContext) (w : Word) : DecodeResult :=
  match parseWord w with
  | none => .invalidWord
  | some t => .instr (decodeTransaction c t)

/-! The encoder. -/

/-- The word of a transaction, field by field from the top (R91 to R94). -/
def encodeTransaction : Transaction → Word
  | .ior p => 0b000#3 ++ 0#5 ++ p ++ 0#8
  | .iow p v => 0b001#3 ++ 0#5 ++ p ++ v
  | .cfgr s fn a => 0b010#3 ++ s ++ fn ++ 0#5 ++ a ++ 0#8
  | .cfgw s fn a v => 0b011#3 ++ s ++ fn ++ 0#5 ++ a ++ v
  | .poweron => 0b100#3 ++ 0#29
  | .reset => 0b101#3 ++ 0#29
  | .destroy => 0b110#3 ++ 0#29

/-- The transaction of a port access that conflicts (R139). -/
def conflictTransaction : IoAccess → Transaction
  | .read p => .ior p
  | .write p v => .iow p v

/-- The transaction an instruction stands for: its kind and operands, a unit by its slot (R103). -/
def transactionOf (p : Params) : Instr → Transaction
  | .iorIsaIndex => .ior Config.isaIndexPort
  | .iowIsaIndex v => .iow Config.isaIndexPort v
  | .iorIsaData => .ior Config.isaDataPort
  | .iowIsaDataRo v => .iow Config.isaDataPort v
  | .iowIsaDataModesel v => .iow Config.isaDataPort v
  | .iowIsaDataBaselo v => .iow Config.isaDataPort v
  | .iowIsaDataBasehi v => .iow Config.isaDataPort v
  | .iowIsaDataShadow v => .iow Config.isaDataPort v
  | .iowIsaDataSmram v => .iow Config.isaDataPort v
  | .iowIsaDataMasked v => .iow Config.isaDataPort v
  | .iowIsaDataPlain v => .iow Config.isaDataPort v
  | .iorHostIndex q => .ior q
  | .iowHostIndex q v => .iow q v
  | .iorHostData q => .ior q
  | .iowHostData q v => .iow q v
  | .iorHostGap q => .ior q
  | .iowHostGap q v => .iow q v
  | .iorLocalIndex q => .ior q
  | .iowLocalIndex q v => .iow q v
  | .iorLocalData q => .ior q
  | .iowLocalData q v => .iow q v
  | .iorLocalGap q => .ior q
  | .iowLocalGap q v => .iow q v
  | .iorUnclaimed q => .ior q
  | .iowUnclaimed q v => .iow q v
  | .ioConflict access => conflictTransaction access
  | .cfgrFn0 u a => .cfgr (slotOf p u) 0 a
  | .cfgrFnx u fn a => .cfgr (slotOf p u) fn a
  | .cfgwFnx u fn a v => .cfgw (slotOf p u) fn a v
  | .cfgwRo u a v => .cfgw (slotOf p u) 0 a v
  | .cfgwCmd u v => .cfgw (slotOf p u) 0 Config.pciCmd v
  | .cfgwHbmask a v => .cfgw (slotOf p .hb) 0 a v
  | .cfgwPlain u a v => .cfgw (slotOf p u) 0 a v
  | .cfgrUnclaimed s fn a => .cfgr s fn a
  | .cfgwUnclaimed s fn a v => .cfgw s fn a v
  | .poweron => .poweron
  | .reset => .reset
  | .destroy => .destroy
  | .notLive t => t

/-- The word of an instruction, on a machine with the given parameters. -/
def encode (p : Params) (i : Instr) : Word :=
  encodeTransaction (transactionOf p i)

/-! The condition column of the opcode table. -/

/-- The one claim on port `q` is by window `w`, at one of the offsets of the row (R100). -/
def soleWindowClaim (c : DecodeContext) (w : WindowId) (q : Port) (offset : Nat → Bool) : Bool :=
  match portClaims c.hostBase c.localBase q with
  | [(o, n)] => o == w.owner && offset n
  | _ => false

/-- The one claim on port `q` is the primary window's, at the offset of the row (R100). -/
def solePrimaryClaim (c : DecodeContext) (q : Port) : Bool :=
  (portClaims c.hostBase c.localBase q).length == 1

/-- The condition of a primary data-write row: live, port 0x23 claimed once, and the class (R101). -/
def dataWriteCondition (c : DecodeContext) (k : PrimaryClass) : Bool :=
  c.phase == .live && solePrimaryClaim c Config.isaDataPort && primaryClass c.params c.isaIndex == k

/-- The condition of a window row (R100). -/
def windowCondition (c : DecodeContext) (w : WindowId) (q : Port) (offset : Nat → Bool) : Bool :=
  c.phase == .live && soleWindowClaim c w q offset

/-- The port an access names. -/
def accessPort : IoAccess → Port
  | .read q => q
  | .write q _ => q

/-- The condition under which a word of the row's pattern is that row: the "condition" column of
spec/opcode_table.json (R103), row by row. -/
def rowCondition (c : DecodeContext) : Instr → Bool
  | .iorIsaIndex => c.phase == .live && solePrimaryClaim c Config.isaIndexPort
  | .iowIsaIndex _ => c.phase == .live && solePrimaryClaim c Config.isaIndexPort
  | .iorIsaData => c.phase == .live && solePrimaryClaim c Config.isaDataPort
  | .iowIsaDataRo _ => dataWriteCondition c .ro
  | .iowIsaDataModesel _ => dataWriteCondition c .modesel
  | .iowIsaDataBaselo _ => dataWriteCondition c .baselo
  | .iowIsaDataBasehi _ => dataWriteCondition c .basehi
  | .iowIsaDataShadow _ => dataWriteCondition c .shadow
  | .iowIsaDataSmram _ => dataWriteCondition c .smram
  | .iowIsaDataMasked _ => dataWriteCondition c .masked
  | .iowIsaDataPlain _ => dataWriteCondition c .plain
  | .iorHostIndex q => windowCondition c .hostBus q (fun n => n == 0)
  | .iowHostIndex q _ => windowCondition c .hostBus q (fun n => n == 0)
  | .iorHostData q => windowCondition c .hostBus q (fun n => n == 4)
  | .iowHostData q _ => windowCondition c .hostBus q (fun n => n == 4)
  | .iorHostGap q => windowCondition c .hostBus q (fun n => n != 0 && n != 4)
  | .iowHostGap q _ => windowCondition c .hostBus q (fun n => n != 0 && n != 4)
  | .iorLocalIndex q => windowCondition c .localBus q (fun n => n == 0)
  | .iowLocalIndex q _ => windowCondition c .localBus q (fun n => n == 0)
  | .iorLocalData q => windowCondition c .localBus q (fun n => n == 4)
  | .iowLocalData q _ => windowCondition c .localBus q (fun n => n == 4)
  | .iorLocalGap q => windowCondition c .localBus q (fun n => n != 0 && n != 4)
  | .iowLocalGap q _ => windowCondition c .localBus q (fun n => n != 0 && n != 4)
  | .iorUnclaimed q => c.phase == .live && (portClaims c.hostBase c.localBase q).isEmpty
  | .iowUnclaimed q _ => c.phase == .live && (portClaims c.hostBase c.localBase q).isEmpty
  | .ioConflict access =>
    c.phase == .live && decide (2 ≤ (portClaims c.hostBase c.localBase (accessPort access)).length)
  | .cfgrFn0 _ _ => c.phase == .live
  | .cfgrFnx _ fn _ => c.phase == .live && fn != 0
  | .cfgwFnx _ fn _ _ => c.phase == .live && fn != 0
  | .cfgwRo u a _ => c.phase == .live && pciReadOnly c.params u a
  | .cfgwCmd u _ => c.phase == .live && !pciReadOnly c.params u Config.pciCmd
  | .cfgwHbmask a _ => c.phase == .live && pciClass c.params .hb a == .hbmask
  | .cfgwPlain u a _ => c.phase == .live && pciClass c.params u a == .plain
  | .cfgrUnclaimed s _ _ => c.phase == .live && (unitAt c.params s).isNone
  | .cfgwUnclaimed s _ _ _ => c.phase == .live && (unitAt c.params s).isNone
  | .poweron => c.phase == .absent
  | .reset => c.phase == .live
  | .destroy => c.phase == .live
  | .notLive t =>
    (c.phase != .live && !(t == .poweron && c.phase == .absent)) || (t == .poweron && c.phase != .absent)

/-! The host's probe of the decoder. -/

/-- The state a probe without a state is decoded in: the one right after reset (log 13). -/
def resetContext : DecodeContext where
  phase := .live
  isaIndex := 0
  hostBase := 0
  localBase := 0
  params := Config.params

/-- The transaction word whose bits are `w`, numbered as the opcode table numbers them: a transaction
is one 32-bit word, so bit 0 of the table is bit 0 of the word (R90, R14). -/
def tableWord (nbits w : Nat) : Word :=
  BitVec.ofNat 32 (w % 2 ^ nbits)

/-- The instruction the decoder reads from a word of at most 32 bits, in the state after reset. -/
def decodeTableWord (nbits w : Nat) : Option Instr :=
  if nbits ≤ 32 then
    match decode resetContext (tableWord nbits w) with
    | .instr i => some i
    | .invalidWord => none
  else none

end Sys2Proof
end

