-- ==== Sys2Proof/Machine/Regions.lean ====
section
/-! DEFINITION. The recalculation engine as a pure function of the four shadow-control bytes (R180):
the region table, the state of each region and the calls a recalculation makes. -/

namespace Sys2Proof.Machine

/-- The region table, row by row (R181). -/
def regionRows : List RegionRow :=
  [⟨0, 0xC0000, 0x4000, 0x25, 0, 1⟩,
   ⟨1, 0xC4000, 0x4000, 0x25, 2, 3⟩,
   ⟨2, 0xC8000, 0x4000, 0x25, 4, 5⟩,
   ⟨3, 0xCC000, 0x4000, 0x25, 6, 7⟩,
   ⟨4, 0xD0000, 0x4000, 0x26, 0, 1⟩,
   ⟨5, 0xD4000, 0x4000, 0x26, 2, 3⟩,
   ⟨6, 0xD8000, 0x4000, 0x26, 4, 5⟩,
   ⟨7, 0xDC000, 0x4000, 0x26, 6, 7⟩,
   ⟨8, 0xE0000, 0x4000, 0x27, 0, 1⟩,
   ⟨9, 0xE4000, 0x4000, 0x27, 2, 3⟩,
   ⟨10, 0xE8000, 0x4000, 0x27, 4, 5⟩,
   ⟨11, 0xEC000, 0x4000, 0x27, 6, 7⟩,
   ⟨12, 0xF0000, 0x10000, 0x28, 0, 1⟩]

/-- The four shadow-control bytes of a primary register file (R180). -/
def shadowBytes (isa : RegFile) : ShadowBytes where
  c := RegFile.read isa 0x25
  d := RegFile.read isa 0x26
  e := RegFile.read isa 0x27
  f := RegFile.read isa 0x28

/-- The control byte a row of the region table names (R181). -/
def controlByte (b : ShadowBytes) (r : RegionRow) : Byte :=
  if r.ctrl = 0x25 then b.c
  else if r.ctrl = 0x26 then b.d
  else if r.ctrl = 0x27 then b.e
  else b.f

/-- WE(k) (R182). -/
def writeEnable (b : ShadowBytes) (r : RegionRow) : Bool :=
  (controlByte b r).getLsbD r.weBit

/-- RE(k) (R182). -/
def readEnable (b : ShadowBytes) (r : RegionRow) : Bool :=
  (controlByte b r).getLsbD r.reBit

/-- The read mode of a region from RE(k) (R183). -/
def readMode (b : ShadowBytes) (r : RegionRow) : ReadMode :=
  if readEnable b r then .readInternal else .readPassthrough

/-- The write mode of a region from WE(k) (R183). -/
def writeMode (b : ShadowBytes) (r : RegionRow) : WriteMode :=
  if writeEnable b r then .writeInternal else .writePassthrough

/-- The state of all thirteen regions, in the order of the table (R183, R184). -/
def regionStates (b : ShadowBytes) : Vector RegionStatus 13 :=
  ⟨(regionRows.map fun r => RegionStatus.applied (readMode b r) (writeMode b r)).toArray, rfl⟩

/-- All thirteen regions unknown: no recalculation since construction (R28). -/
def unknownRegions : Vector RegionStatus 13 :=
  Vector.replicate 13 .unknown

/-- The call a recalculation makes for one region: read and write mode together (R186). -/
def regionEffect (b : ShadowBytes) (r : RegionRow) : Effect :=
  .regionSet r.base r.size (readMode b r) (writeMode b r)

/-- The calls of a recalculation: thirteen RegionSet in ascending order, then Invalidate (R184, R79). -/
def recalcEffects (b : ShadowBytes) : List Effect :=
  regionRows.map (regionEffect b) ++ [.invalidate]

/-- The call of an SMRAM forward (R188). -/
def smramEffect (p : Params) (en : Bool) : Effect :=
  .smramSet p.smramCtx p.smramBase p.smramSize en

end Sys2Proof.Machine
end

