-- ==== Sys2Proof/Machine/Flags.lean ====
section
/-! DEFINITION. The two summary flags (R30, R185), the block's only flags (R32), and the SMRAM enable
bit (R29). -/

namespace Sys2Proof.Machine

/-- `shadowWriteAny`: some region has WE = 1 (R185). -/
def shadowWriteFlag (b : ShadowBytes) : Bool :=
  regionRows.any (writeEnable b)

/-- `shadowReadAny`: some region has RE = 1 (R185). -/
def shadowReadFlag (b : ShadowBytes) : Bool :=
  regionRows.any (readEnable b)

/-- The block's SMRAM enable: bit 7 of `isa[SMRAM_REG]` (R29, R36). -/
def smramEnable (p : Params) (isa : RegFile) : Bool :=
  (RegFile.read isa p.smramReg).getLsbD 7

end Sys2Proof.Machine
end

