-- ==== Sys2Proof/Machine/State.lean ====
section
/-! DEFINITION. The state of the machine, what the host may deliver, the reasons a step can stop, and
the state right after reset. -/

namespace Sys2Proof.Machine

/-- An access of more than one byte that the host gives the model (R69): the space, the direction, the
address and the width in bytes. R69 speaks of widths above 1; a request of this form with a width of 0
or 1 is refused like the others (DESIGN CHOICE, log 7): a one-byte access is given as a word. -/
structure WideAccess where
  configuration : Bool
  write : Bool
  address : Nat
  width : Nat
  deriving DecidableEq, Repr

/-- What the host can deliver: a transaction word (R90), or one of the two requests the block's
interface does not have, which the model refuses by name (R69, R42; log 7). -/
inductive HostRequest where
  | word (w : Word)
  | wide (a : WideAccess)
  | restore (image : ChipState)
  deriving DecidableEq, Repr

/-- The whole state: the block's record (R20), what the spec adds to it (R28 to R31, R41), and the
model's own fields: the parameters (log 3), the read data (log 8), what the host has still to
deliver (log 1) and the count of construction outcomes drawn (log 4). -/
structure State where
  params : Params
  phase : Phase
  chip : ChipState
  region : Vector RegionStatus 13
  smramVisible : SmramStatus
  shadowWriteAny : Bool
  shadowReadAny : Bool
  trace : List Effect
  readData : List ReadResult
  input : List HostRequest
  draws : Nat
  deriving DecidableEq, Repr

/-- The block raises no fault: "There are no recoverable-error returns in this component's contract"
(R250). No constructor, so no step answers with one. -/
inductive Fault where
  deriving DecidableEq, Repr

/-- The reasons a step is refused. But for the first they are the closed list of R254. Every one is
safe: "the model admits no run past it". -/
inductive Refusal where
  /-- An instruction of the opcode table without a meaning, named by its mnemonic. Raised by `exec`;
  no arm raises it now. Safe. -/
  | notModelled (mnemonic : String)
  /-- A word of reserved kind or with a nonzero must-be-0 field (R96). Raised by `fetch`. Safe. -/
  | invalidWord
  /-- A transaction outside phase Live, other than POWERON in Absent (R261). Raised by
  `execNotLive`. Safe. -/
  | notLive
  /-- A port with two or more claims (R63, R139). Raised by `execIoConflict`. Safe. -/
  | portConflict
  /-- An access of more than one byte given to the model (R69), or a request of that form with a width
  of 0 or 1 (DESIGN CHOICE, log 7). Raised by `fetch`. Safe. -/
  | wideAccess
  /-- A relocation to a base above 0xFFFB (R202). Raised by `relocate`. Safe. -/
  | windowWrap
  /-- A save-state restore given to the model (R42). Raised by `fetch`. Safe. -/
  | restore
  /-- A parameter set that is not well formed (R12), refused at construction (log 6). Raised by
  `execPoweron`. Safe. -/
  | badParameters
  deriving DecidableEq, Repr

/-- The outcome of one step or one meaning. -/
abbrev Result := Host.Outcome State Fault Refusal

/-- The state before construction (R31): phase Absent, nothing called, all registers zero. What the
registers hold is never seen: POWERON writes them all (log 5). -/
def State.absent (p : Params) : State where
  params := p
  phase := .absent
  chip :=
    { isaIndex := 0
      isaRegisters := RegFile.zero
      hostWin := Window.zero
      localWin := Window.zero
      pci := { hb := RegFile.zero, br := RegFile.zero, st := RegFile.zero } }
  region := unknownRegions
  smramVisible := .unknown
  shadowWriteAny := false
  shadowReadAny := false
  trace := []
  readData := []
  input := []
  draws := 0

/-- The machine right after reset: a successful power-on followed by a system reset, each value as
R39 gives it (log 2). -/
def State.reset : State where
  params := Config.params
  phase := .live
  chip := { constructionChip Config.params with isaRegisters := resetRegisters }
  region := if Config.params.resetRecalc then regionStates (shadowBytes resetRegisters) else unknownRegions
  smramVisible := if Config.params.resetRecalc then .forwarded false else .unknown
  shadowWriteAny := false
  shadowReadAny := false
  trace :=
    powerOnEffects Config.params
    ++ (if Config.params.resetRecalc then
          smramEffect Config.params false :: recalcEffects (shadowBytes resetRegisters)
        else [])
  readData := []
  input := []
  draws := 1

end Sys2Proof.Machine
end

