-- ==== Sys2Proof/Machine/Ops.lean ====
section
/-! DEFINITION. The operations the meanings share: reading and writing the block's registers, answering
a read, calling collaborators, the procedures RECALC, SMRAM_FWD and RELOCATE, the lifecycle, and
fetching the next transaction. The block takes no exception (R258), so there is none to take here. -/

namespace Sys2Proof.Machine

/-! Answers and calls. -/

/-- `return v`: the read data joins the observation (R16, R41); a read changes nothing else (R72). -/
def answer (s : State) (r : ReadResult) : State :=
  { s with readData := s.readData ++ [r] }

/-- `emit`: the calls join the end of the effect trace, in order (R41). -/
def emit (s : State) (es : List Effect) : State :=
  { s with trace := s.trace ++ es }

/-! The primary window. -/

/-- `isa[a]`. -/
def readIsa (s : State) (a : Byte) : Byte :=
  RegFile.read s.chip.isaRegisters a

/-- `isa[a] <- v`. -/
def writeIsa (s : State) (a v : Byte) : State :=
  { s with chip := { s.chip with isaRegisters := RegFile.write s.chip.isaRegisters a v } }

/-- `isaIndex <- v`, unmasked (R122). -/
def writeIsaIndex (s : State) (v : Byte) : State :=
  { s with chip := { s.chip with isaIndex := v } }

/-- A primary data write of the selected register through its mask (R150, R151). -/
def writeSelected (s : State) (v : Byte) : State :=
  writeIsa s s.chip.isaIndex (v &&& primaryMask s.params s.chip.isaIndex)

/-! The host-bus and local-bus windows. -/

/-- Window `w` of the block (R24, R25). -/
def window (s : State) : WindowId → Window
  | .hostBus => s.chip.hostWin
  | .localBus => s.chip.localWin

/-- The state with window `w` replaced. -/
def withWindow (s : State) (w : WindowId) (x : Window) : State :=
  match w with
  | .hostBus => { s with chip := { s.chip with hostWin := x } }
  | .localBus => { s with chip := { s.chip with localWin := x } }

/-- `W.index <- v`, unmasked (R126, R132). -/
def writeWindowIndex (s : State) (w : WindowId) (v : Byte) : State :=
  withWindow s w { window s w with index := v }

/-- `W.reg[W.index]` (R127, R133). -/
def readWindowData (s : State) (w : WindowId) : Byte :=
  RegFile.read (window s w).reg (window s w).index

/-- `W.reg[W.index] <- v`, raw (R128, R134). -/
def writeWindowData (s : State) (w : WindowId) (v : Byte) : State :=
  withWindow s w { window s w with reg := RegFile.write (window s w).reg (window s w).index v }

/-! The PCI units. -/

/-- `pci[U][a]`. -/
def readPci (s : State) (u : PciUnit) (a : Byte) : Byte :=
  s.chip.pci.read u a

/-- `pci[U][a] <- v`. -/
def writePci (s : State) (u : PciUnit) (a v : Byte) : State :=
  { s with chip := { s.chip with pci := s.chip.pci.write u a v } }

/-! The procedures. -/

/-- SMRAM_FWD (R188). -/
def smramForward (s : State) (en : Bool) : State :=
  { emit s [smramEffect s.params en] with smramVisible := .forwarded en }

/-- RECALC (R184): every region re-applied and every flag recomputed from the four shadow-control
bytes, then the invalidation. -/
def recalc (s : State) : State :=
  let b := shadowBytes s.chip.isaRegisters
  { emit s (recalcEffects b) with
    region := regionStates b
    shadowWriteAny := shadowWriteFlag b
    shadowReadAny := shadowReadFlag b }

/-- The window selector `sel` (R33), read at the time of each base-byte write (R201). -/
def selector (s : State) : Option WindowId :=
  windowSelector (readIsa s Config.modeReg)

/-- Moving window `w` to base `new`: its index and registers are kept (R202, R207). -/
def moveWindow (s : State) (w : WindowId) (new : Port) : State :=
  emit (withWindow s w { window s w with base := new }) (relocateEffects w (window s w).base new)

/-- RELOCATE (R202): nothing where no window is selected; the whole transaction refused where the new
window would run past port 0xFFFF. -/
def relocate (s : State) (which : BaseByte) (b : Byte) : Result :=
  match selector s with
  | none => .next s
  | some w =>
    let new := newBase (window s w).base which b
    if Config.maxBase.toNat < new.toNat then .refused .windowWrap
    else .next (moveWindow s w new)

/-! The lifecycle. -/

/-- A successful construction (R270). -/
def construct (s : State) : State :=
  { emit s (powerOnEffects s.params) with
    chip := constructionChip s.params
    region := unknownRegions
    smramVisible := .unknown
    shadowWriteAny := false
    shadowReadAny := false
    phase := .live }

/-- A failed construction: phase Failed and nothing else (R255, R270). -/
def constructionFailed (s : State) : State :=
  { s with phase := .failed }

/-- The next outcome of a construction is drawn (R255; log 4). -/
def drawConstruction (s : State) : State :=
  { s with draws := s.draws + 1 }

/-- The primary register file as a reset leaves it (R272); nothing else of the record changes. -/
def clearRegisters (s : State) : State :=
  { s with chip := { s.chip with isaRegisters := resetRegisters } }

/-- A system reset (R272). -/
def systemReset (s : State) : State :=
  let cleared := clearRegisters s
  if s.params.resetRecalc then recalc (smramForward cleared false) else cleared

/-- A teardown (R273). -/
def teardown (s : State) : State :=
  { emit s (teardownEffects s.params s.chip.hostWin.base s.chip.localWin.base) with
    phase := .destroyed }

/-! Fetching. -/

/-- What decode reads of a state (R98). -/
def decodeContext (s : State) : DecodeContext where
  phase := s.phase
  isaIndex := s.chip.isaIndex
  hostBase := s.chip.hostWin.base
  localBase := s.chip.localWin.base
  params := s.params

/-- The state with the head of the host's queue taken (R21: each step consumes the next transaction). -/
def consume (s : State) : State :=
  { s with input := s.input.tail }

/-- The state with a word put at the head of the host's queue, to be delivered next. -/
def deliver (s : State) (w : Word) : State :=
  { s with input := .word w :: s.input }

/-- What the head of the host's queue asks for: nothing, an instruction, or a refusal by name. A wide
request is refused whatever its width field holds, 0 and 1 included, of which R69 and R254 do not speak
(DESIGN CHOICE, log 7). -/
def fetch (s : State) : Option (Except Refusal Instr) :=
  match s.input with
  | [] => none
  | .word w :: _ =>
    match decode (decodeContext s) w with
    | .instr i => some (.ok i)
    | .invalidWord => some (.error .invalidWord)
  | .wide _ :: _ => some (.error .wideAccess)
  | .restore _ :: _ => some (.error .restore)

/-- What is persisted for save and restore: the record of R20, and none of the derived state (R42). -/
def persisted (s : State) : ChipState :=
  s.chip

end Sys2Proof.Machine
end

