-- ==== Sys2Proof/Machine/HostWindow.lean ====
section
/-! DEFINITION. The host-bus window's ports (R125 to R130). -/

namespace Sys2Proof.Machine

/-- IOR_HOST_INDEX (R125). -/
def execIorHostIndex (s : State) : Result :=
  .next (answer s (.byte (window s .hostBus).index))

/-- IOW_HOST_INDEX (R126). -/
def execIowHostIndex (v : Byte) (s : State) : Result :=
  .next (writeWindowIndex s .hostBus v)

/-- IOR_HOST_DATA (R127). -/
def execIorHostData (s : State) : Result :=
  .next (answer s (.byte (readWindowData s .hostBus)))

/-- IOW_HOST_DATA (R128). -/
def execIowHostData (v : Byte) (s : State) : Result :=
  .next (writeWindowData s .hostBus v)

/-- IOR_HOST_GAP (R129): a sentinel read (R253). -/
def execIorHostGap (s : State) : Result :=
  .next (answer s (.byte Config.sentinel))

/-- IOW_HOST_GAP (R130): an ignored write (R251). -/
def execIowHostGap (_v : Byte) (s : State) : Result :=
  .next s

end Sys2Proof.Machine
end

