-- ==== Sys2Proof/Machine/Lifecycle.lean ====
section
/-! DEFINITION. Construction, reset, teardown, and a transaction while the block is not live (R270,
R272, R273, R261). -/

namespace Sys2Proof.Machine

/-- POWERON (R270, R255): an ill-formed parameter set is refused (R12, R254; log 6); otherwise the
outcome is drawn. -/
def execPoweron (s : State) : Result :=
  if s.params.wf then
    if Config.constructionSucceeds s.draws then .next (construct (drawConstruction s))
    else .next (constructionFailed (drawConstruction s))
  else .refused .badParameters

/-- RESET (R272). -/
def execReset (s : State) : Result :=
  .next (systemReset s)

/-- DESTROY (R273). -/
def execDestroy (s : State) : Result :=
  .next (teardown s)

/-- NOT_LIVE (R261): no behaviour is defined for a block that is not live, and the model refuses. -/
def execNotLive (_t : Transaction) (_s : State) : Result :=
  .refused .notLive

end Sys2Proof.Machine
end

