-- ==== Sys2Proof/Machine/LocalWindow.lean ====
section
/-! DEFINITION. The local-bus window's ports (R131 to R136). -/

namespace Sys2Proof.Machine

/-- IOR_LOCAL_INDEX (R131). -/
def execIorLocalIndex (s : State) : Result :=
  .next (answer s (.byte (window s .localBus).index))

/-- IOW_LOCAL_INDEX (R132). -/
def execIowLocalIndex (v : Byte) (s : State) : Result :=
  .next (writeWindowIndex s .localBus v)

/-- IOR_LOCAL_DATA (R133). -/
def execIorLocalData (s : State) : Result :=
  .next (answer s (.byte (readWindowData s .localBus)))

/-- IOW_LOCAL_DATA (R134). -/
def execIowLocalData (v : Byte) (s : State) : Result :=
  .next (writeWindowData s .localBus v)

/-- IOR_LOCAL_GAP (R135): a sentinel read (R253). -/
def execIorLocalGap (s : State) : Result :=
  .next (answer s (.byte Config.sentinel))

/-- IOW_LOCAL_GAP (R136): an ignored write (R251). -/
def execIowLocalGap (_v : Byte) (s : State) : Result :=
  .next s

end Sys2Proof.Machine
end

