-- ==== Sys2Proof/Machine/OtherPorts.lean ====
section
/-! DEFINITION. Ports the block does not own, and ports with two or more claims (R137 to R139). -/

namespace Sys2Proof.Machine

/-- IOR_UNCLAIMED (R137): what the CPU then sees is the port dispatcher's (R64). -/
def execIorUnclaimed (s : State) : Result :=
  .next (answer s .noResponse)

/-- IOW_UNCLAIMED (R138). -/
def execIowUnclaimed (_v : Byte) (s : State) : Result :=
  .next s

/-- IO_CONFLICT (R139, R63): the source gives such a port no behaviour, and the model refuses. -/
def execIoConflict (_access : IoAccess) (_s : State) : Result :=
  .refused .portConflict

end Sys2Proof.Machine
end

