-- ==== Sys2Proof/Machine/Pci.lean ====
section
/-! DEFINITION. The PCI configuration units (R229 to R237). No operation here has a side effect beyond
the byte it stores (R238). -/

namespace Sys2Proof.Machine

/-- CFGR_FN0 (R229). -/
def execCfgrFn0 (u : PciUnit) (a : Byte) (s : State) : Result :=
  .next (answer s (.byte (readPci s u a)))

/-- CFGR_FNX (R230): a sentinel read (R253). -/
def execCfgrFnx (s : State) : Result :=
  .next (answer s (.byte Config.sentinel))

/-- CFGW_FNX (R231): an ignored write (R251). -/
def execCfgwFnx (_v : Byte) (s : State) : Result :=
  .next s

/-- CFGW_RO (R232): an ignored write (R251). -/
def execCfgwRo (_v : Byte) (s : State) : Result :=
  .next s

/-- CFGW_CMD (R233): a masked write (R252). -/
def execCfgwCmd (u : PciUnit) (v : Byte) (s : State) : Result :=
  .next (writePci s u Config.pciCmd (v &&& commandMask s.params u))

/-- CFGW_HBMASK (R234): a masked write (R252). An address outside HB_MASKED is no word of this row
(R102) and would be unmasked. -/
def execCfgwHbmask (a v : Byte) (s : State) : Result :=
  .next (writePci s .hb a (v &&& (hbMask s.params a).getD 0xFF))

/-- CFGW_PLAIN (R235). -/
def execCfgwPlain (u : PciUnit) (a v : Byte) (s : State) : Result :=
  .next (writePci s u a v)

/-- CFGR_UNCLAIMED (R236). -/
def execCfgrUnclaimed (s : State) : Result :=
  .next (answer s .noResponse)

/-- CFGW_UNCLAIMED (R237). -/
def execCfgwUnclaimed (_v : Byte) (s : State) : Result :=
  .next s

end Sys2Proof.Machine
end

