-- ==== Sys2Proof/Machine/Primary.lean ====
section
/-! DEFINITION. The primary window: its index and data ports (R121 to R123) and the eight classes of a
primary data write (R153 to R160). -/

namespace Sys2Proof.Machine

/-- IOR_ISA_INDEX (R121). -/
def execIorIsaIndex (s : State) : Result :=
  .next (answer s (.byte s.chip.isaIndex))

/-- IOW_ISA_INDEX (R122). -/
def execIowIsaIndex (v : Byte) (s : State) : Result :=
  .next (writeIsaIndex s v)

/-- IOR_ISA_DATA (R123). -/
def execIorIsaData (s : State) : Result :=
  .next (answer s (.byte (readIsa s s.chip.isaIndex)))

/-- IOW_ISA_DATA_RO (R153): an ignored write (R251). -/
def execIowIsaDataRo (_v : Byte) (s : State) : Result :=
  .next s

/-- IOW_ISA_DATA_MODESEL (R158): the selector is a function of the stored byte, so nothing moves yet. -/
def execIowIsaDataModesel (v : Byte) (s : State) : Result :=
  .next (writeIsa s Config.modeReg v)

/-- IOW_ISA_DATA_BASELO (R159). -/
def execIowIsaDataBaselo (v : Byte) (s : State) : Result :=
  relocate (writeIsa s Config.baseLoReg v) .lo v

/-- IOW_ISA_DATA_BASEHI (R160). -/
def execIowIsaDataBasehi (v : Byte) (s : State) : Result :=
  relocate (writeIsa s Config.baseHiReg v) .hi v

/-- IOW_ISA_DATA_SHADOW (R156): the store through the register's mask (R150), then RECALC, changed or
not (R162). -/
def execIowIsaDataShadow (v : Byte) (s : State) : Result :=
  .next (recalc (writeSelected s v))

/-- IOW_ISA_DATA_SMRAM (R157, R189): the store of SMRAM_REG through its mask (R150), the SMRAM forward,
then RECALC. -/
def execIowIsaDataSmram (v : Byte) (s : State) : Result :=
  let stored := writeIsa s s.params.smramReg (v &&& primaryMask s.params s.params.smramReg)
  .next (recalc (smramForward stored (smramEnable s.params stored.chip.isaRegisters)))

/-- IOW_ISA_DATA_MASKED (R155): a masked write (R252). -/
def execIowIsaDataMasked (v : Byte) (s : State) : Result :=
  .next (writeSelected s v)

/-- IOW_ISA_DATA_PLAIN (R154). -/
def execIowIsaDataPlain (v : Byte) (s : State) : Result :=
  .next (writeIsa s s.chip.isaIndex v)

end Sys2Proof.Machine
end

