-- ==== Sys2Proof/Machine/Dispatch.lean ====
section
/-! DEFINITION. One arm per instruction. -/

namespace Sys2Proof.Machine

def exec (i : Instr) (s : State) : Host.Outcome State Fault Refusal :=
  match i with
  | .iorIsaIndex => Sys2Proof.Machine.execIorIsaIndex s
  | .iowIsaIndex v => Sys2Proof.Machine.execIowIsaIndex v s
  | .iorIsaData => Sys2Proof.Machine.execIorIsaData s
  | .iowIsaDataRo v => Sys2Proof.Machine.execIowIsaDataRo v s
  | .iowIsaDataModesel v => Sys2Proof.Machine.execIowIsaDataModesel v s
  | .iowIsaDataBaselo v => Sys2Proof.Machine.execIowIsaDataBaselo v s
  | .iowIsaDataBasehi v => Sys2Proof.Machine.execIowIsaDataBasehi v s
  | .iowIsaDataShadow v => Sys2Proof.Machine.execIowIsaDataShadow v s
  | .iowIsaDataSmram v => Sys2Proof.Machine.execIowIsaDataSmram v s
  | .iowIsaDataMasked v => Sys2Proof.Machine.execIowIsaDataMasked v s
  | .iowIsaDataPlain v => Sys2Proof.Machine.execIowIsaDataPlain v s
  | .iorHostIndex _ => Sys2Proof.Machine.execIorHostIndex s
  | .iowHostIndex _ v => Sys2Proof.Machine.execIowHostIndex v s
  | .iorHostData _ => Sys2Proof.Machine.execIorHostData s
  | .iowHostData _ v => Sys2Proof.Machine.execIowHostData v s
  | .iorHostGap _ => Sys2Proof.Machine.execIorHostGap s
  | .iowHostGap _ v => Sys2Proof.Machine.execIowHostGap v s
  | .iorLocalIndex _ => Sys2Proof.Machine.execIorLocalIndex s
  | .iowLocalIndex _ v => Sys2Proof.Machine.execIowLocalIndex v s
  | .iorLocalData _ => Sys2Proof.Machine.execIorLocalData s
  | .iowLocalData _ v => Sys2Proof.Machine.execIowLocalData v s
  | .iorLocalGap _ => Sys2Proof.Machine.execIorLocalGap s
  | .iowLocalGap _ v => Sys2Proof.Machine.execIowLocalGap v s
  | .iorUnclaimed _ => Sys2Proof.Machine.execIorUnclaimed s
  | .iowUnclaimed _ v => Sys2Proof.Machine.execIowUnclaimed v s
  | .ioConflict access => Sys2Proof.Machine.execIoConflict access s
  | .cfgrFn0 u a => Sys2Proof.Machine.execCfgrFn0 u a s
  | .cfgrFnx _ _ _ => Sys2Proof.Machine.execCfgrFnx s
  | .cfgwFnx _ _ _ v => Sys2Proof.Machine.execCfgwFnx v s
  | .cfgwRo _ _ v => Sys2Proof.Machine.execCfgwRo v s
  | .cfgwCmd u v => Sys2Proof.Machine.execCfgwCmd u v s
  | .cfgwHbmask a v => Sys2Proof.Machine.execCfgwHbmask a v s
  | .cfgwPlain u a v => Sys2Proof.Machine.execCfgwPlain u a v s
  | .cfgrUnclaimed _ _ _ => Sys2Proof.Machine.execCfgrUnclaimed s
  | .cfgwUnclaimed _ _ _ v => Sys2Proof.Machine.execCfgwUnclaimed v s
  | .poweron => Sys2Proof.Machine.execPoweron s
  | .reset => Sys2Proof.Machine.execReset s
  | .destroy => Sys2Proof.Machine.execDestroy s
  | .notLive t => Sys2Proof.Machine.execNotLive t s

end Sys2Proof.Machine
end

