-- ==== Sys2Proof/Machine/Step.lean ====
section
/-! DEFINITION. One step: the next transaction of the host's queue, decoded in the state it meets,
taken from the queue and run (R21, R90). With nothing to deliver nothing happens (R256; log 1). -/

namespace Sys2Proof.Machine

def step (s : State) : Host.Outcome State Fault Refusal :=
  match fetch s with
  | none => .next s
  | some (.error r) => .refused r
  | some (.ok i) => exec i (consume s)

/-- The host is about to deliver the given word: it stands at the head of the queue (log 1). -/
def State.withFetchWord (s : State) (nbits w : Nat) : State :=
  deliver s (tableWord nbits w)

end Sys2Proof.Machine
end

