-- ==== Sys2Proof/Safety.lean ====
section
/-! DEFINITION. The terms claims are stated in: what a transaction may change, what the effect trace
says the collaborators hold, and the invariants of R34. -/

namespace Sys2Proof.Machine

/-! What a next state may differ in. -/

/-- `t` differs from `s` in no field but the read data. -/
def OnlyReadData (s t : State) : Prop :=
  t = { s with readData := t.readData }

/-- `t` differs from `s` in no field but the primary register file. -/
def OnlyIsaRegisters (s t : State) : Prop :=
  t = { s with chip := { s.chip with isaRegisters := t.chip.isaRegisters } }

/-- `t` differs from `s` in no field but the PCI configuration spaces. -/
def OnlyPci (s t : State) : Prop :=
  t = { s with chip := { s.chip with pci := t.chip.pci } }

/-- The primary register file of `t` is that of `s` with byte `a` equal to `v`. -/
def IsaByteBecomes (s t : State) (a v : Byte) : Prop :=
  ∀ x, readIsa t x = if x = a then v else readIsa s x

/-- The PCI bytes of `t` are those of `s` with byte `a` of unit `u` equal to `v` (R221). -/
def PciByteBecomes (s t : State) (u : PciUnit) (a v : Byte) : Prop :=
  ∀ w x, readPci t w x = if w = u ∧ x = a then v else readPci s w x

/-- Window `w` of `t` is that of `s` moved from base `old` to `new`, with the calls of R200's table and
nothing else changed but the primary register file: index, registers, the other window and the rest
stay (R202, R207). -/
def WindowMoves (s t : State) (w : WindowId) (new : Port) : Prop :=
  t.chip.hostWin = (if w = .hostBus then { s.chip.hostWin with base := new } else s.chip.hostWin)
  ∧ t.chip.localWin = (if w = .localBus then { s.chip.localWin with base := new } else s.chip.localWin)
  ∧ t.trace = s.trace
      ++ (if (window s w).base = 0 then [] else [Effect.portUnreg (window s w).base 5 w.owner])
      ++ (if new = 0 then [] else [Effect.portReg new 5 w.owner])
  ∧ t = { s with
      trace := t.trace
      chip := { s.chip with
        isaRegisters := t.chip.isaRegisters
        hostWin := t.chip.hostWin
        localWin := t.chip.localWin } }

/-! The rules' own formulas, written from the spec and not from the meanings. -/

/-- The bits R96 makes a word invalid for, on the word as a number: kind 7, or a nonzero must-be-0
field of its format. -/
def BreaksFormat (w : Word) : Prop :=
  w.toNat / 2 ^ 29 = 7
  ∨ (w.toNat / 2 ^ 29 ≤ 1 ∧ w.toNat / 2 ^ 24 % 32 ≠ 0)
  ∨ (w.toNat / 2 ^ 29 = 0 ∧ w.toNat % 256 ≠ 0)
  ∨ ((w.toNat / 2 ^ 29 = 2 ∨ w.toNat / 2 ^ 29 = 3) ∧ w.toNat / 2 ^ 16 % 32 ≠ 0)
  ∨ (w.toNat / 2 ^ 29 = 2 ∧ w.toNat % 256 ≠ 0)
  ∨ (4 ≤ w.toNat / 2 ^ 29 ∧ w.toNat / 2 ^ 29 ≤ 6 ∧ w.toNat % 2 ^ 29 ≠ 0)

/-- The mode value that selects a window (R33). -/
def modeOf : WindowId → Byte
  | .hostBus => 0x07
  | .localBus => 0x06

/-- The row of a base-byte write (R159, R160). -/
def baseWrite : BaseByte → Byte → Instr
  | .lo, v => .iowIsaDataBaselo v
  | .hi, v => .iowIsaDataBasehi v

/-- The register of a base byte (R159, R160). -/
def baseRegister : BaseByte → Byte
  | .lo => 0x12
  | .hi => 0x13

/-- `new` of R202 as masks and shifts. -/
def replacedBase (old : Port) : BaseByte → Byte → Port
  | .lo, v => (old &&& 0xFF00) ||| v.zeroExtend 16
  | .hi, v => (v.zeroExtend 16 <<< 8) ||| (old &&& 0x00FF)

/-- WE of region `k` by the layout of R36: bit 2j of byte 0x25 + b, where k = 4b + j. -/
def regionWrites (s : State) (k : Nat) : Bool :=
  (readIsa s (BitVec.ofNat 8 (0x25 + k / 4))).getLsbD (2 * (k % 4))

/-- RE of region `k` by the layout of R36: bit 2j + 1 of byte 0x25 + b, where k = 4b + j. -/
def regionReads (s : State) (k : Nat) : Bool :=
  (readIsa s (BitVec.ofNat 8 (0x25 + k / 4))).getLsbD (2 * (k % 4) + 1)

/-- The read mode of region `k` (R183). -/
def regionRead (s : State) (k : Nat) : ReadMode :=
  if regionReads s k then .readInternal else .readPassthrough

/-- The write mode of region `k` (R183). -/
def regionWrite (s : State) (k : Nat) : WriteMode :=
  if regionWrites s k then .writeInternal else .writePassthrough

/-- The call for region `k`: base 0xC0000 + 0x4000 k, 16 KiB, the last one 64 KiB (R36, R184). -/
def regionCall (s : State) (k : Nat) : Effect :=
  .regionSet (BitVec.ofNat 20 (0xC0000 + 0x4000 * k)) (if k = 12 then 0x10000 else 0x4000)
    (regionRead s k) (regionWrite s k)

/-- `t` is `s` after the calls `first` and a recalculation from `t`'s own shadow-control bytes: every
region re-applied, both flags recomputed, thirteen calls in ascending order, then the invalidation
(R184, R185). -/
def Recalculated (s t : State) (first : List Effect) : Prop :=
  (∀ k : Fin 13, t.region[k] = .applied (regionRead t k) (regionWrite t k))
  ∧ (t.shadowWriteAny = true ↔ ∃ k : Fin 13, regionWrites t k = true)
  ∧ (t.shadowReadAny = true ↔ ∃ k : Fin 13, regionReads t k = true)
  ∧ t.trace = s.trace ++ first ++ (List.range 13).map (regionCall t) ++ [.invalidate]

/-- `t` differs from `s` in no field but the primary registers and what a recalculation or an SMRAM
forward writes. -/
def OnlyShadowState (s t : State) : Prop :=
  t = { s with
    chip := { s.chip with isaRegisters := t.chip.isaRegisters }
    region := t.region
    smramVisible := t.smramVisible
    shadowWriteAny := t.shadowWriteAny
    shadowReadAny := t.shadowReadAny
    trace := t.trace }

/-- A call only a recalculation or an SMRAM forward makes. -/
def isShadowCall : Effect → Bool
  | .regionSet _ _ _ _ => true
  | .smramSet _ _ _ _ => true
  | .invalidate => true
  | .portReg _ _ _ => false
  | .portUnreg _ _ _ => false
  | .pciReg _ _ => false
  | .pciRelease _ => false

/-- The rows that recalculate (R190): the shadow-control writes, and a reset where RESET_RECALC holds. -/
def recalculates (p : Params) : Instr → Bool
  | .iowIsaDataShadow _ => true
  | .iowIsaDataSmram _ => true
  | .reset => p.resetRecalc
  | _ => false

/-- The rows that may move or release a window (R200): the base-byte writes, construction and teardown. -/
def movesWindows : Instr → Bool
  | .iowIsaDataBaselo _ => true
  | .iowIsaDataBasehi _ => true
  | .poweron => true
  | .destroy => true
  | _ => false

/-! What the trace says the collaborators hold. -/

/-- A port range registered with the port dispatcher (R27, R40). -/
structure PortRange where
  base : Port
  count : Nat
  owner : Owner
  deriving DecidableEq, Repr

/-- The port dispatcher's table after one more call. -/
def portTableStep (table : List PortRange) : Effect → List PortRange
  | .portReg b n o => table ++ [⟨b, n, o⟩]
  | .portUnreg b n o => table.erase ⟨b, n, o⟩
  | .regionSet _ _ _ _ => table
  | .smramSet _ _ _ _ => table
  | .invalidate => table
  | .pciReg _ _ => table
  | .pciRelease _ => table

/-- The port dispatcher's table, replayed from the trace (R208). -/
def portTable (trace : List Effect) : List PortRange :=
  trace.foldl portTableStep []

/-- The ranges of the table that one owner holds. -/
def heldBy (o : Owner) (trace : List Effect) : List PortRange :=
  (portTable trace).filter (fun r => r.owner == o)

/-- The PCI bus manager's table after one more call. -/
def pciTableStep (table : List (Slot × PciUnit)) : Effect → List (Slot × PciUnit)
  | .pciReg s u => table ++ [(s, u)]
  | .pciRelease s => table.filter (fun r => r.1 != s)
  | .regionSet _ _ _ _ => table
  | .smramSet _ _ _ _ => table
  | .invalidate => table
  | .portReg _ _ _ => table
  | .portUnreg _ _ _ => table

/-- The PCI bus manager's table, replayed from the trace. -/
def pciTable (trace : List Effect) : List (Slot × PciUnit) :=
  trace.foldl pciTableStep []

/-- The access state of the region at `base` after one more call. -/
def regionStep (base : PhysAddr) (acc : RegionStatus) : Effect → RegionStatus
  | .regionSet b _ rd wr => if b = base then .applied rd wr else acc
  | .smramSet _ _ _ _ => acc
  | .invalidate => acc
  | .portReg _ _ _ => acc
  | .portUnreg _ _ _ => acc
  | .pciReg _ _ => acc
  | .pciRelease _ => acc

/-- The access state the address-space manager was last given for the region at `base`. -/
def lastRegion (base : PhysAddr) (trace : List Effect) : RegionStatus :=
  trace.foldl (regionStep base) .unknown

/-- The SMRAM visibility after one more call. -/
def smramStep (acc : SmramStatus) : Effect → SmramStatus
  | .smramSet _ _ _ en => .forwarded en
  | .regionSet _ _ _ _ => acc
  | .invalidate => acc
  | .portReg _ _ _ => acc
  | .portUnreg _ _ _ => acc
  | .pciReg _ _ => acc
  | .pciRelease _ => acc

/-- The SMRAM visibility the address-space manager was last given. -/
def lastSmram (trace : List Effect) : SmramStatus :=
  trace.foldl smramStep .unknown

/-! Invariants. -/

/-- The range an owner should hold: a window's while it is mapped, the primary one while live (R27). -/
def expectedRanges (s : State) (o : Owner) : List PortRange :=
  match s.phase, o with
  | .live, .primary => [⟨0x22, 2, .primary⟩]
  | .live, .hostBus => if s.chip.hostWin.base = 0 then [] else [⟨s.chip.hostWin.base, 5, .hostBus⟩]
  | .live, .localBus => if s.chip.localWin.base = 0 then [] else [⟨s.chip.localWin.base, 5, .localBus⟩]
  | .absent, _ => []
  | .failed, _ => []
  | .destroyed, _ => []

/-- R34 (b), R208: what each owner has registered is exactly what the bases say. -/
def RegistrationsAgree (s : State) : Prop :=
  ∀ o, heldBy o s.trace = expectedRanges s o

/-- R203, R34 (b): at no point of the trace did an owner hold two ranges. -/
def NeverDoubleRegistered (s : State) : Prop :=
  ∀ done, done <+: s.trace → ∀ o, (heldBy o done).length ≤ 1

/-- R220, R273: the PCI bus manager holds the three units while the block is live, and nothing else. -/
def PciRegistrationsAgree (s : State) : Prop :=
  pciTable s.trace
    = if s.phase = .live then
        [(s.params.slotHb, .hb), (s.params.slotBr, .br), (s.params.slotSt, .st)]
      else []

/-- R255, R270: before construction, and after a failed one, no collaborator has been called. -/
def SilentUnlessConstructed (s : State) : Prop :=
  (s.phase = .absent ∨ s.phase = .failed) → s.trace = []

/-- R12, R254: a live block has a well-formed parameter set. -/
def LiveParametersWellFormed (s : State) : Prop :=
  s.phase = .live → s.params.wf = true

/-- R28, R29: the model's region and SMRAM state is what the address-space manager was last given. -/
def AppliedStateAgrees (s : State) : Prop :=
  (∀ r ∈ regionRows, s.region[r.k] = lastRegion r.base s.trace) ∧ s.smramVisible = lastSmram s.trace

/-- The four shadow-control bytes all zero. -/
def zeroShadow : ShadowBytes where
  c := 0
  d := 0
  e := 0
  f := 0

/-- R34 (c), R185: the region state and the summary flags are those of the shadow-control bytes as they
stood at the last recalculation: the present bytes, or, where a reset without recalculation came
since, earlier ones (the present ones being zero). Before any recalculation the bytes are zero. -/
def RegionsCoherent (s : State) : Prop :=
  s.phase = .live →
    (s.region = unknownRegions ∧ s.shadowWriteAny = false ∧ s.shadowReadAny = false
      ∧ shadowBytes s.chip.isaRegisters = zeroShadow)
    ∨ ∃ b : ShadowBytes,
        s.region = regionStates b
        ∧ s.shadowWriteAny = shadowWriteFlag b
        ∧ s.shadowReadAny = shadowReadFlag b
        ∧ (shadowBytes s.chip.isaRegisters = b
            ∨ (s.params.resetRecalc = false ∧ shadowBytes s.chip.isaRegisters = zeroShadow))

/-- R35, R150: a masked-off bit of a primary register reads 0; only 0x7B, which a reset forces to
0xFF, may hold more than its mask. -/
def MaskedBitsZero (s : State) : Prop :=
  s.phase = .live →
    ∀ a, a ≠ Config.resetFfReg → readIsa s a &&& ~~~ primaryMask s.params a = 0

/-- R34 (d), R222, R228: a read-only PCI byte holds its construction value, and a masked one no bit
outside its mask. -/
def PciBytesProtected (s : State) : Prop :=
  s.phase = .live →
    (∀ u a, pciReadOnly s.params u a = true → readPci s u a = constructionByte s.params u a)
    ∧ (∀ u, readPci s u Config.pciCmd &&& ~~~ commandMask s.params u = 0)
    ∧ (∀ a m, hbMask s.params a = some m → readPci s .hb a &&& ~~~ m = 0)

/-- R27, R202: no window runs past port 0xFFFF. -/
def WindowsFit (s : State) : Prop :=
  s.phase = .live →
    s.chip.hostWin.base.toNat ≤ 0xFFFB ∧ s.chip.localWin.base.toNat ≤ 0xFFFB

end Sys2Proof.Machine
end

