-- ==== Sys2Proof/Certificates/Slice0/Obligations.lean ====
section
/-! DEFINITION. The statements for the provers, each a proposition whose name says what it states.
`OBLIGATIONS.json` lists them with the rules they rest on. -/

open Sys2Proof Sys2Proof.Machine

/-! Encoding and decoding. -/

/-- Every row's word decodes to that row, with every operand, wherever the row's condition holds. -/
def Obligations.DecodeEncodeAgree : Prop :=
  ∀ (c : DecodeContext) (i : Instr), c.params.wf = true → rowCondition c i = true →
    decode c (encode c.params i) = .instr i

/-- A word decodes only to a row whose condition holds, whose operands the row allows, and whose word
it is. -/
def Obligations.DecodedRowIsTheTablesRow : Prop :=
  ∀ (c : DecodeContext) (w : Word) (i : Instr), decode c w = .instr i →
    rowCondition c i = true ∧ i.wellFormed c.params = true ∧ encode c.params i = w

/-- R98: every word is exactly one row or invalid, and decode reads nothing of the state but the phase,
the index, the bases and the parameters. -/
def Obligations.EveryWordIsOneRowOrInvalid : Prop :=
  (∀ (c : DecodeContext) (w : Word), c.params.wf = true →
    (decode c w = .invalidWord ∧ ¬ ∃ i, rowCondition c i = true ∧ encode c.params i = w)
    ∨ (∃ i, decode c w = .instr i ∧ rowCondition c i = true
        ∧ ∀ j, rowCondition c j = true → encode c.params j = w → j = i))
  ∧ (∀ (s t : State) (w : Word), s.phase = t.phase → s.chip.isaIndex = t.chip.isaIndex →
      s.chip.hostWin.base = t.chip.hostWin.base → s.chip.localWin.base = t.chip.localWin.base →
      s.params = t.params → decode (decodeContext s) w = decode (decodeContext t) w)

/-- R96: exactly the words of reserved kind or with a nonzero must-be-0 field are invalid, in every
state, and a step refuses them by name. -/
def Obligations.InvalidWordsAreThoseThatBreakTheFormat : Prop :=
  (∀ (c : DecodeContext) (w : Word), decode c w = .invalidWord ↔ BreaksFormat w)
  ∧ (∀ (s : State) (w : Word) (rest : List HostRequest), s.input = .word w :: rest → BreaksFormat w →
      step s = .refused .invalidWord)

/-- The word of each transaction as a number: the fields at the bit positions of R92 to R94. -/
def Obligations.TransactionWordsAsNumbers : Prop :=
  (∀ p : Port, (encodeTransaction (.ior p)).toNat = p.toNat * 2 ^ 8)
  ∧ (∀ (p : Port) (v : Byte),
      (encodeTransaction (.iow p v)).toNat = 0x20000000 + p.toNat * 2 ^ 8 + v.toNat)
  ∧ (∀ (s : Slot) (fn : FnIndex) (a : Byte),
      (encodeTransaction (.cfgr s fn a)).toNat
        = 0x40000000 + s.toNat * 2 ^ 24 + fn.toNat * 2 ^ 21 + a.toNat * 2 ^ 8)
  ∧ (∀ (s : Slot) (fn : FnIndex) (a v : Byte),
      (encodeTransaction (.cfgw s fn a v)).toNat
        = 0x60000000 + s.toNat * 2 ^ 24 + fn.toNat * 2 ^ 21 + a.toNat * 2 ^ 8 + v.toNat)
  ∧ (encodeTransaction .poweron).toNat = 0x80000000
  ∧ (encodeTransaction .reset).toNat = 0xA0000000
  ∧ (encodeTransaction .destroy).toNat = 0xC0000000

/-- Words written out in 95_test_vectors.md decode to the rows they stand for, with the test parameters
TP, both windows disabled unless the clause says otherwise. -/
def Obligations.SampleWordsDecode : Prop :=
  decode { phase := .live, isaIndex := 0x21, hostBase := 0, localBase := 0, params := Params.test }
      0x200023FF = .instr (.iowIsaDataMasked 0xFF)
  ∧ decode { phase := .live, isaIndex := 0x25, hostBase := 0, localBase := 0, params := Params.test }
      0x20002305 = .instr (.iowIsaDataShadow 0x05)
  ∧ decode { phase := .live, isaIndex := 0, hostBase := 0x0200, localBase := 0, params := Params.test }
      0x2002045A = .instr (.iowHostData 0x0204 0x5A)
  ∧ decode { phase := .live, isaIndex := 0, hostBase := 0, localBase := 0x0300, params := Params.test }
      0x00030300 = .instr (.iorLocalGap 0x0303)
  ∧ decode { phase := .live, isaIndex := 0, hostBase := 0, localBase := 0, params := Params.test }
      0x00002400 = .instr (.iorUnclaimed 0x0024)
  ∧ decode { phase := .live, isaIndex := 0, hostBase := 0, localBase := 0, params := Params.test }
      0x42E0FF00 = .instr (.cfgrFnx .st 7 0xFF)
  ∧ decode { phase := .live, isaIndex := 0, hostBase := 0, localBase := 0, params := Params.test }
      0x600052FF = .instr (.cfgwHbmask 0x52 0xFF)
  ∧ decode { phase := .absent, isaIndex := 0, hostBase := 0, localBase := 0, params := Params.test }
      0x80000000 = .instr .poweron

/-- R62: the claims on a port, pair by pair. -/
def Obligations.PortClaimsAreTheRules : Prop :=
  ∀ (hostBase localBase p : Port) (o : Owner) (n : Nat),
    (o, n) ∈ portClaims hostBase localBase p ↔
      (o = .primary ∧ n = 0 ∧ p = 0x22)
      ∨ (o = .primary ∧ n = 1 ∧ p = 0x23)
      ∨ (o = .hostBus ∧ hostBase ≠ 0 ∧ n ≤ 4 ∧ p.toNat = hostBase.toNat + n)
      ∨ (o = .localBus ∧ localBase ≠ 0 ∧ n ≤ 4 ∧ p.toNat = localBase.toNat + n)

/-! The step. -/

/-- A step runs the instruction its word decodes to, on the state with the word taken from the queue. -/
def Obligations.StepRunsTheDecodedInstruction : Prop :=
  ∀ (s : State) (w : Word) (rest : List HostRequest) (i : Instr),
    s.input = .word w :: rest → decode (decodeContext s) w = .instr i →
      step s = exec i { s with input := rest }

/-- With nothing delivered nothing happens (R256); a wider access and a restore are refused by name
(R69, R42), in any state. The idle step, the form of the two requests, and the refusal of a wide request
whose width field is 0 or 1 are the model's choices (logs 1 and 7). -/
def Obligations.IdleAndUnsupportedRequests : Prop :=
  (∀ s : State, s.input = [] → step s = .next s)
  ∧ (∀ (s : State) (a : WideAccess) (rest : List HostRequest),
      s.input = .wide a :: rest → step s = .refused .wideAccess)
  ∧ (∀ (s : State) (image : ChipState) (rest : List HostRequest),
      s.input = .restore image :: rest → step s = .refused .restore)

/-- R261: a valid word outside phase Live, but for POWERON in Absent, and POWERON in any other phase, is
refused by name. -/
def Obligations.NotLiveIsRefused : Prop :=
  (∀ (s : State) (w : Word) (x : Transaction) (rest : List HostRequest),
    s.input = .word w :: rest → parseWord w = some x →
    ((s.phase ≠ .live ∧ ¬ (x = .poweron ∧ s.phase = .absent)) ∨ (x = .poweron ∧ s.phase ≠ .absent)) →
      step s = .refused .notLive)
  ∧ (∀ (x : Transaction) (s : State), exec (.notLive x) s = .refused .notLive)

/-- R139: a read or a write of a port with two or more claims is refused by name. -/
def Obligations.PortConflictIsRefused : Prop :=
  (∀ (s : State) (access : IoAccess) (rest : List HostRequest),
    s.phase = .live →
    2 ≤ (portClaims s.chip.hostWin.base s.chip.localWin.base (accessPort access)).length →
    s.input = .word (encodeTransaction (conflictTransaction access)) :: rest →
      step s = .refused .portConflict)
  ∧ (∀ (access : IoAccess) (s : State), exec (.ioConflict access) s = .refused .portConflict)

/-- R250, R254: no step faults, and each refusal has the cause the closed list gives it. That an ill-formed
parameter set is refused at POWERON (log 6), and a wide request at any width field (log 7), are the model's
choices. -/
def Obligations.StopsAreTheClosedList : Prop :=
  (∀ (s : State) (f : Fault), step s ≠ .fault f)
  ∧ (∀ (s : State) (r : Refusal), step s = .refused r →
      (r = .invalidWord ∧ ∃ w rest, s.input = .word w :: rest ∧ BreaksFormat w)
      ∨ (r = .notLive ∧ ∃ w rest x, s.input = .word w :: rest ∧ parseWord w = some x
          ∧ ((s.phase ≠ .live ∧ ¬ (x = .poweron ∧ s.phase = .absent))
              ∨ (x = .poweron ∧ s.phase ≠ .absent)))
      ∨ (r = .portConflict ∧ s.phase = .live ∧ ∃ access rest,
          s.input = .word (encodeTransaction (conflictTransaction access)) :: rest
          ∧ 2 ≤ (portClaims s.chip.hostWin.base s.chip.localWin.base (accessPort access)).length)
      ∨ (r = .wideAccess ∧ ∃ a rest, s.input = .wide a :: rest)
      ∨ (r = .windowWrap ∧ s.phase = .live ∧ ∃ which v rest w,
          s.input = .word (encodeTransaction (.iow 0x23 v)) :: rest
          ∧ s.chip.isaIndex = baseRegister which ∧ readIsa s 0x10 = modeOf w
          ∧ 0xFFFB < (replacedBase (window s w).base which v).toNat)
      ∨ (r = .restore ∧ ∃ image rest, s.input = .restore image :: rest)
      ∨ (r = .badParameters ∧ s.phase = .absent ∧ s.params.wf = false
          ∧ ∃ rest, s.input = .word 0x80000000 :: rest))

/-- R97: a live block completes every valid transaction but a second power-on, unless its port has two
claims or its relocation would pass port 0xFFFF. -/
def Obligations.LiveBlockCompletes : Prop :=
  ∀ (s : State) (x : Transaction) (rest : List HostRequest),
    s.phase = .live → s.input = .word (encodeTransaction x) :: rest → x ≠ .poweron →
    (∀ access, x = conflictTransaction access →
      (portClaims s.chip.hostWin.base s.chip.localWin.base (accessPort access)).length ≤ 1) →
    (∀ v, x = .iow 0x23 v → ∀ which w, s.chip.isaIndex = baseRegister which →
      readIsa s 0x10 = modeOf w → (replacedBase (window s w).base which v).toNat ≤ 0xFFFB) →
      ∃ t, step s = .next t

/-- R41, R90: a step takes one request from the queue, changes no parameter, appends to the trace and
answers at most one read. -/
def Obligations.StepsOnlyAppend : Prop :=
  ∀ s t : State, step s = .next t →
    t.params = s.params ∧ t.input = s.input.tail ∧ s.trace <+: t.trace
    ∧ (t.readData = s.readData ∨ ∃ r, t.readData = s.readData ++ [r])

/-- R31: the phase changes only from Absent, to Live or Failed, and from Live to Destroyed. -/
def Obligations.PhasesFollowTheLifecycle : Prop :=
  ∀ s t : State, step s = .next t →
    t.phase = s.phase
    ∨ (s.phase = .absent ∧ (t.phase = .live ∨ t.phase = .failed))
    ∨ (s.phase = .live ∧ t.phase = .destroyed)

/-- R72: a read of any port, slot, function or address of a live block changes nothing but the read
data, and a second read of the same answers the same. -/
def Obligations.ReadsHaveNoSideEffect : Prop :=
  ∀ (s : State) (x : Transaction) (rest : List HostRequest),
    s.phase = .live →
    ((∃ p, x = .ior p
        ∧ (portClaims s.chip.hostWin.base s.chip.localWin.base p).length ≤ 1)
      ∨ (∃ d fn a, x = .cfgr d fn a)) →
    s.input = .word (encodeTransaction x) :: .word (encodeTransaction x) :: rest →
      ∃ r t u, step s = .next t ∧ step t = .next u
        ∧ t = { s with input := s.input.tail, readData := s.readData ++ [r] }
        ∧ u = { s with input := rest, readData := s.readData ++ [r, r] }

/-- R28 to R30: the region state, the SMRAM status and the summary flags are written and never read: a
step from two states that differ in nothing else makes the same calls, answers the same and leaves the
same record and phase. -/
def Obligations.DerivedStateIsNeverRead : Prop :=
  ∀ (s t : State) (region : Vector RegionStatus 13) (smram : SmramStatus) (wa ra : Bool),
    step s = .next t →
      ∃ u, step { s with region := region, smramVisible := smram, shadowWriteAny := wa, shadowReadAny := ra }
            = .next u
        ∧ u.chip = t.chip ∧ u.phase = t.phase ∧ u.trace = t.trace ∧ u.readData = t.readData
        ∧ u.draws = t.draws

/-! The primary window. -/

/-- R121, R123: the index port and the data port answer the stored byte and change nothing else; their
words. -/
def Obligations.PrimaryReadsAnswerTheStoredByte : Prop :=
  (∀ p : Params, encode p .iorIsaIndex = 0x00002200 ∧ encode p .iorIsaData = 0x00002300)
  ∧ (∀ s : State, ∃ t, exec .iorIsaIndex s = .next t ∧ OnlyReadData s t
    ∧ t.readData = s.readData ++ [.byte s.chip.isaIndex])
  ∧ (∀ s : State, ∃ t, exec .iorIsaData s = .next t ∧ OnlyReadData s t
    ∧ t.readData = s.readData ++ [.byte (readIsa s s.chip.isaIndex)])

/-- R122: a write of the index port stores the byte unmasked and changes nothing else; its word. -/
def Obligations.PrimaryIndexWriteStoresTheByte : Prop :=
  ∀ (s : State) (v : Byte),
    (∀ p, (encode p (.iowIsaIndex v)).toNat = 0x20002200 + v.toNat)
    ∧ exec (.iowIsaIndex v) s = .next { s with chip := { s.chip with isaIndex := v } }

/-- R251 with R138 and R237: an ignored write leaves the state as it is: read-only primary registers,
window gap ports, unclaimed ports and slots, function indices above 0, read-only PCI addresses. -/
def Obligations.IgnoredWritesChangeNothing : Prop :=
  ∀ (s : State) (v : Byte),
    exec (.iowIsaDataRo v) s = .next s
    ∧ (∀ p, exec (.iowHostGap p v) s = .next s)
    ∧ (∀ p, exec (.iowLocalGap p v) s = .next s)
    ∧ (∀ p, exec (.iowUnclaimed p v) s = .next s)
    ∧ (∀ u fn a, exec (.cfgwFnx u fn a v) s = .next s)
    ∧ (∀ u a, exec (.cfgwRo u a v) s = .next s)
    ∧ (∀ d fn a, exec (.cfgwUnclaimed d fn a v) s = .next s)

/-- R253 with R137 and R236: a window gap port and a function index above 0 read 0xFF; an unclaimed port
or slot answers no response; nothing else changes. -/
def Obligations.SentinelAndNoResponseReads : Prop :=
  ∀ s : State,
    (∀ p, exec (.iorHostGap p) s = .next { s with readData := s.readData ++ [.byte 0xFF] })
    ∧ (∀ p, exec (.iorLocalGap p) s = .next { s with readData := s.readData ++ [.byte 0xFF] })
    ∧ (∀ u fn a, exec (.cfgrFnx u fn a) s = .next { s with readData := s.readData ++ [.byte 0xFF] })
    ∧ (∀ p, exec (.iorUnclaimed p) s = .next { s with readData := s.readData ++ [.noResponse] })
    ∧ (∀ d fn a, exec (.cfgrUnclaimed d fn a) s = .next { s with readData := s.readData ++ [.noResponse] })

/-- R154, R155: a plain write stores the byte, a masked one the byte through the register's mask, in the
selected register alone; their words. -/
def Obligations.PlainAndMaskedWritesStore : Prop :=
  (∀ (p : Params) (v : Byte), (encode p (.iowIsaDataPlain v)).toNat = 0x20002300 + v.toNat
    ∧ (encode p (.iowIsaDataMasked v)).toNat = 0x20002300 + v.toNat)
  ∧ (∀ (s : State) (v : Byte), ∃ t, exec (.iowIsaDataPlain v) s = .next t
    ∧ IsaByteBecomes s t s.chip.isaIndex v ∧ OnlyIsaRegisters s t)
  ∧ (∀ (s : State) (v : Byte), ∃ t, exec (.iowIsaDataMasked v) s = .next t
    ∧ IsaByteBecomes s t s.chip.isaIndex (v &&& primaryMask s.params s.chip.isaIndex)
    ∧ OnlyIsaRegisters s t)

/-- R151: the mask table, with the parameters' values where the spec decides them. -/
def Obligations.PrimaryMaskTable : Prop :=
  (∀ a : Byte, a ∉ ([0x21, 0x22, 0x28, 0x29, 0x36] : List Byte) → primaryMask Config.params a = 0xFF)
  ∧ primaryMask Config.params 0x28 = 0x83
  ∧ ∀ p : Params,
    primaryMask p 0x10 = 0xFF ∧ primaryMask p 0x12 = 0xFF ∧ primaryMask p 0x13 = 0xFF
    ∧ primaryMask p 0x21 = 0xFE ∧ primaryMask p 0x22 = 0x7F
    ∧ primaryMask p 0x25 = 0xFF ∧ primaryMask p 0x26 = 0xFF ∧ primaryMask p 0x27 = 0xFF
    ∧ primaryMask p 0x28 = p.shadow28Mask
    ∧ primaryMask p 0x29 = 0x0F ∧ primaryMask p 0x36 = 0x3F
    ∧ (∀ a : Byte, a ∉ ([0x10, 0x12, 0x13, 0x21, 0x22, 0x25, 0x26, 0x27, 0x28, 0x29, 0x36] : List Byte) →
        primaryMask p a = RegFile.read p.isaMask a)

/-- R158, R33: a mode-select write stores the byte and moves nothing; the selector is then the local-bus
window for 0x06, the host-bus window for 0x07 and none for any other value; its word. -/
def Obligations.ModeSelectWriteSetsTheSelector : Prop :=
  ∀ (s : State) (v : Byte),
    (∀ p, (encode p (.iowIsaDataModesel v)).toNat = 0x20002300 + v.toNat) ∧
    ∃ t, exec (.iowIsaDataModesel v) s = .next t
    ∧ IsaByteBecomes s t 0x10 v ∧ OnlyIsaRegisters s t
    ∧ (selector t = some .localBus ↔ v = 0x06)
    ∧ (selector t = some .hostBus ↔ v = 0x07)
    ∧ (selector t = none ↔ v ≠ 0x06 ∧ v ≠ 0x07)

/-- R159, R160, R202, R206: a base-byte write stores its byte; where register 0x10 selects a window it
replaces that byte of the window's own base and moves the window at once, unregister first, or is refused
where the new window would pass port 0xFFFF; where it selects none, nothing else changes; the words of
IOW_ISA_DATA_BASELO and IOW_ISA_DATA_BASEHI. -/
def Obligations.BaseByteWritesMoveTheSelectedWindow : Prop :=
  ∀ (s : State) (which : BaseByte) (v : Byte),
    (∀ p, (encode p (baseWrite which v)).toNat = 0x20002300 + v.toNat)
    ∧ (readIsa s 0x10 ≠ 0x06 → readIsa s 0x10 ≠ 0x07 →
      ∃ t, exec (baseWrite which v) s = .next t
        ∧ IsaByteBecomes s t (baseRegister which) v ∧ OnlyIsaRegisters s t)
    ∧ (∀ w, readIsa s 0x10 = modeOf w →
        (replacedBase (window s w).base which v).toNat ≤ 0xFFFB →
          ∃ t, exec (baseWrite which v) s = .next t
            ∧ IsaByteBecomes s t (baseRegister which) v
            ∧ WindowMoves s t w (replacedBase (window s w).base which v))
    ∧ (∀ w, readIsa s 0x10 = modeOf w →
        0xFFFB < (replacedBase (window s w).base which v).toNat →
          exec (baseWrite which v) s = .refused .windowWrap)

/-- R67: a window base is its high byte above its low byte, whichever byte is written first. -/
def Obligations.BothBaseBytesMakeTheBase : Prop :=
  ∀ (old : Port) (l h : Byte),
    (newBase (newBase old .lo l) .hi h).toNat = h.toNat * 256 + l.toNat
    ∧ (newBase (newBase old .hi h) .lo l).toNat = h.toNat * 256 + l.toNat

/-- R156, with the layout of R36 and the table of R183: a write of 0x25, 0x26 or 0x27 stores the byte and
recalculates every region and both flags, in every case; its word. -/
def Obligations.ShadowWriteRecalculates : Prop :=
  (∀ (p : Params) (v : Byte), (encode p (.iowIsaDataShadow v)).toNat = 0x20002300 + v.toNat)
  ∧ ∀ (s : State) (v : Byte),
    (s.chip.isaIndex = 0x25 ∨ s.chip.isaIndex = 0x26 ∨ s.chip.isaIndex = 0x27) →
      ∃ t, exec (.iowIsaDataShadow v) s = .next t
        ∧ IsaByteBecomes s t s.chip.isaIndex v
        ∧ Recalculated s t []
        ∧ t.smramVisible = s.smramVisible
        ∧ OnlyShadowState s t

/-- For every value of SMRAM_REG: a write of it stores the byte through that register's mask (SHADOW28_MASK
where SMRAM_REG is 0x28), forwards bit 7 of the stored byte before the first region call, then
recalculates; its word. The store for a value other than 0x28 is the model's choice (log 21);
`SmramWriteOfRegister28` says what R157 says. -/
def Obligations.SmramWriteForwardsThenRecalculates : Prop :=
  ∀ (s : State) (v : Byte),
    (∀ p, (encode p (.iowIsaDataSmram v)).toNat = 0x20002300 + v.toNat)
    ∧ (s.params.smramReg = 0x28 → primaryMask s.params s.params.smramReg = s.params.shadow28Mask)
    ∧ ∃ t, exec (.iowIsaDataSmram v) s = .next t
      ∧ IsaByteBecomes s t s.params.smramReg (v &&& primaryMask s.params s.params.smramReg)
      ∧ Recalculated s t
          [.smramSet s.params.smramCtx s.params.smramBase s.params.smramSize
            ((v &&& primaryMask s.params s.params.smramReg).getLsbD 7)]
      ∧ t.smramVisible
          = .forwarded ((v &&& primaryMask s.params s.params.smramReg).getLsbD 7)
      ∧ OnlyShadowState s t

/-- R157, R188, R189: where SMRAM_REG is 0x28, as R11 decides, a write of 0x28 stores the byte through
SHADOW28_MASK, forwards bit 7 of the stored byte before the first region call, then recalculates; its
word. -/
def Obligations.SmramWriteOfRegister28 : Prop :=
  ∀ (s : State) (v : Byte), s.params.smramReg = 0x28 →
    (∀ p, (encode p (.iowIsaDataSmram v)).toNat = 0x20002300 + v.toNat)
    ∧ ∃ t, exec (.iowIsaDataSmram v) s = .next t
      ∧ IsaByteBecomes s t 0x28 (v &&& s.params.shadow28Mask)
      ∧ Recalculated s t
          [.smramSet s.params.smramCtx s.params.smramBase s.params.smramSize
            ((v &&& s.params.shadow28Mask).getLsbD 7)]
      ∧ t.smramVisible = .forwarded ((v &&& s.params.shadow28Mask).getLsbD 7)
      ∧ OnlyShadowState s t

/-- SMRAM_REG is a parameter (R11): a primary data write of it is of the SMRAM class, and where it is not
0x28 a write of 0x28 is of the shadow class, stores the byte through SHADOW28_MASK and recalculates
without a forward. What the class table does for a value other than 0x28 is the model's reading (log 21). -/
def Obligations.SmramRegisterIsAParameter : Prop :=
  ∀ (s : State) (v : Byte), s.chip.isaIndex ∉ s.params.isaRo →
    (s.chip.isaIndex = s.params.smramReg → s.chip.isaIndex ≠ 0x10 → s.chip.isaIndex ≠ 0x12 →
      s.chip.isaIndex ≠ 0x13 → decodePrimaryWrite (decodeContext s) v = .iowIsaDataSmram v)
    ∧ (s.chip.isaIndex = 0x28 → s.params.smramReg ≠ 0x28 →
        decodePrimaryWrite (decodeContext s) v = .iowIsaDataShadow v
        ∧ ∃ t, exec (.iowIsaDataShadow v) s = .next t
          ∧ IsaByteBecomes s t 0x28 (v &&& s.params.shadow28Mask)
          ∧ Recalculated s t []
          ∧ t.smramVisible = s.smramVisible
          ∧ OnlyShadowState s t)

/-- R180: the region states, the summary flags and the calls of a recalculation depend on the four
shadow-control bytes and on nothing else. -/
def Obligations.RecalculationReadsFourBytesOnly : Prop :=
  ∀ s t : State,
    readIsa s 0x25 = readIsa t 0x25 → readIsa s 0x26 = readIsa t 0x26 →
    readIsa s 0x27 = readIsa t 0x27 → readIsa s 0x28 = readIsa t 0x28 →
      (recalc s).region = (recalc t).region
      ∧ (recalc s).shadowWriteAny = (recalc t).shadowWriteAny
      ∧ (recalc s).shadowReadAny = (recalc t).shadowReadAny
      ∧ ∃ calls, (recalc s).trace = s.trace ++ calls ∧ (recalc t).trace = t.trace ++ calls

/-- R187, R162: a shadow-control write repeated makes the same calls again and leaves the same region
state and flags. -/
def Obligations.RecalculationHasNoDrift : Prop :=
  ∀ (s : State) (v : Byte),
    (s.chip.isaIndex = 0x25 ∨ s.chip.isaIndex = 0x26 ∨ s.chip.isaIndex = 0x27) →
      ∃ t u calls, exec (.iowIsaDataShadow v) s = .next t ∧ exec (.iowIsaDataShadow v) t = .next u
        ∧ t.trace = s.trace ++ calls ∧ u.trace = t.trace ++ calls ∧ calls.length = 14
        ∧ u.region = t.region ∧ u.shadowWriteAny = t.shadowWriteAny
        ∧ u.shadowReadAny = t.shadowReadAny ∧ u.chip = t.chip

/-- R190, R73: only a shadow-control write, and a reset where RESET_RECALC holds, make a region, SMRAM or
invalidation call; construction apart, nothing else changes the region state, the SMRAM status or the
flags. -/
def Obligations.NothingElseRecalculates : Prop :=
  ∀ (s t : State) (i : Instr), exec i s = .next t → recalculates s.params i = false →
    (∃ calls, t.trace = s.trace ++ calls ∧ ∀ e ∈ calls, isShadowCall e = false)
    ∧ (i ≠ .poweron →
        t.region = s.region ∧ t.smramVisible = s.smramVisible
        ∧ t.shadowWriteAny = s.shadowWriteAny ∧ t.shadowReadAny = s.shadowReadAny)

/-- R200, R209, R210: no row but a base-byte write, construction and teardown changes a window's base or
calls the port dispatcher. -/
def Obligations.NothingElseMovesAWindow : Prop :=
  ∀ (s t : State) (i : Instr), exec i s = .next t → movesWindows i = false →
    t.chip.hostWin.base = s.chip.hostWin.base ∧ t.chip.localWin.base = s.chip.localWin.base
    ∧ ∀ o, heldBy o t.trace = heldBy o s.trace

/-- R161: after a primary data write that completes, of whatever class, the data port answers the byte
through the register's mask, or the old byte where the register is read-only. -/
def Obligations.PrimaryReadback : Prop :=
  ∀ (s t : State) (v : Byte), exec (decodePrimaryWrite (decodeContext s) v) s = .next t →
      t.chip.isaIndex = s.chip.isaIndex
      ∧ ∃ u, exec .iorIsaData t = .next u
        ∧ u.readData = t.readData
            ++ [.byte (if s.chip.isaIndex ∈ s.params.isaRo then readIsa s s.chip.isaIndex
                       else v &&& primaryMask s.params s.chip.isaIndex)]

/-- R161 through the ports: on a live block whose primary ports no window covers, `isaw a, v` then `isar a`
(R105: `outb 0x22, a`, `outb 0x23, v`, `outb 0x22, a`, `inb 0x23`) complete and read the readback law's
byte; a base register only where the selector is none, since its write may otherwise be refused or move
a window over the ports. -/
def Obligations.ReadbackThroughThePorts : Prop :=
  ∀ (s : State) (a v : Byte) (rest : List HostRequest),
    s.phase = .live →
    (portClaims s.chip.hostWin.base s.chip.localWin.base 0x22).length = 1 →
    (portClaims s.chip.hostWin.base s.chip.localWin.base 0x23).length = 1 →
    ((a ≠ 0x12 ∧ a ≠ 0x13) ∨ (readIsa s 0x10 ≠ 0x06 ∧ readIsa s 0x10 ≠ 0x07)) →
    s.input = .word (encodeTransaction (.iow 0x22 a)) :: .word (encodeTransaction (.iow 0x23 v))
        :: .word (encodeTransaction (.iow 0x22 a)) :: .word (encodeTransaction (.ior 0x23)) :: rest →
      ∃ t, core.run 4 s = .next t
        ∧ t.readData = s.readData
            ++ [.byte (if a ∈ s.params.isaRo then readIsa s a else v &&& primaryMask s.params a)]
        ∧ t.input = rest

/-! The host-bus and local-bus windows. -/

/-- R125 to R128: the host-bus window's index and data ports, and their words. -/
def Obligations.HostWindowPorts : Prop :=
  ∀ (s : State) (p : Port) (v : Byte),
    (∀ q, (encode q (.iorHostIndex p)).toNat = p.toNat * 2 ^ 8
      ∧ (encode q (.iowHostIndex p v)).toNat = 0x20000000 + p.toNat * 2 ^ 8 + v.toNat
      ∧ (encode q (.iorHostData p)).toNat = p.toNat * 2 ^ 8
      ∧ (encode q (.iowHostData p v)).toNat = 0x20000000 + p.toNat * 2 ^ 8 + v.toNat)
    ∧ exec (.iorHostIndex p) s = .next { s with readData := s.readData ++ [.byte s.chip.hostWin.index] }
    ∧ exec (.iowHostIndex p v) s
        = .next { s with chip := { s.chip with hostWin := { s.chip.hostWin with index := v } } }
    ∧ exec (.iorHostData p) s
        = .next { s with readData := s.readData
            ++ [.byte (RegFile.read s.chip.hostWin.reg s.chip.hostWin.index)] }
    ∧ ∃ t, exec (.iowHostData p v) s = .next t
        ∧ (∀ x, RegFile.read t.chip.hostWin.reg x
            = if x = s.chip.hostWin.index then v else RegFile.read s.chip.hostWin.reg x)
        ∧ t = { s with chip := { s.chip with hostWin := { s.chip.hostWin with reg := t.chip.hostWin.reg } } }

/-- R131 to R134: the local-bus window's index and data ports, and their words. -/
def Obligations.LocalWindowPorts : Prop :=
  ∀ (s : State) (p : Port) (v : Byte),
    (∀ q, (encode q (.iorLocalIndex p)).toNat = p.toNat * 2 ^ 8
      ∧ (encode q (.iowLocalIndex p v)).toNat = 0x20000000 + p.toNat * 2 ^ 8 + v.toNat
      ∧ (encode q (.iorLocalData p)).toNat = p.toNat * 2 ^ 8
      ∧ (encode q (.iowLocalData p v)).toNat = 0x20000000 + p.toNat * 2 ^ 8 + v.toNat)
    ∧ exec (.iorLocalIndex p) s = .next { s with readData := s.readData ++ [.byte s.chip.localWin.index] }
    ∧ exec (.iowLocalIndex p v) s
        = .next { s with chip := { s.chip with localWin := { s.chip.localWin with index := v } } }
    ∧ exec (.iorLocalData p) s
        = .next { s with readData := s.readData
            ++ [.byte (RegFile.read s.chip.localWin.reg s.chip.localWin.index)] }
    ∧ ∃ t, exec (.iowLocalData p v) s = .next t
        ∧ (∀ x, RegFile.read t.chip.localWin.reg x
            = if x = s.chip.localWin.index then v else RegFile.read s.chip.localWin.reg x)
        ∧ t = { s with chip := { s.chip with localWin := { s.chip.localWin with reg := t.chip.localWin.reg } } }

/-! The PCI units. -/

/-- R229: a configuration read at function 0 answers the stored byte, at every address of every unit; its
word. -/
def Obligations.PciReadAnswersTheStoredByte : Prop :=
  ∀ (s : State) (u : PciUnit) (a : Byte),
    (∀ p, (encode p (.cfgrFn0 u a)).toNat = 0x40000000 + (slotOf p u).toNat * 2 ^ 24 + a.toNat * 2 ^ 8) ∧
    ∃ t, exec (.cfgrFn0 u a) s = .next t
    ∧ OnlyReadData s t ∧ t.readData = s.readData ++ [.byte (readPci s u a)]

/-- R233, R234, R235, R221: a command write stores through the unit's mask (0x01 for the bridge and the
storage controller), a host-bridge masked write through that address's mask, a plain write as is, in that
byte of that unit alone; their words. -/
def Obligations.PciWritesStore : Prop :=
  (∀ (p : Params) (u : PciUnit) (a v : Byte),
    (encode p (.cfgwCmd u v)).toNat = 0x60000000 + (slotOf p u).toNat * 2 ^ 24 + 0x04 * 2 ^ 8 + v.toNat
    ∧ (encode p (.cfgwHbmask a v)).toNat
        = 0x60000000 + p.slotHb.toNat * 2 ^ 24 + a.toNat * 2 ^ 8 + v.toNat
    ∧ (encode p (.cfgwPlain u a v)).toNat
        = 0x60000000 + (slotOf p u).toNat * 2 ^ 24 + a.toNat * 2 ^ 8 + v.toNat)
  ∧ (∀ (s : State) (u : PciUnit) (v : Byte), ∃ t, exec (.cfgwCmd u v) s = .next t
    ∧ PciByteBecomes s t u 0x04 (v &&& (if u = .hb then s.params.cmdMaskHb else 0x01)) ∧ OnlyPci s t)
  ∧ (∀ (s : State) (a v m : Byte), hbMask s.params a = some m →
      ∃ t, exec (.cfgwHbmask a v) s = .next t ∧ PciByteBecomes s t .hb a (v &&& m) ∧ OnlyPci s t)
  ∧ (∀ (s : State) (u : PciUnit) (a v : Byte), ∃ t, exec (.cfgwPlain u a v) s = .next t
    ∧ PciByteBecomes s t u a v ∧ OnlyPci s t)

/-- R239: a configuration write, then a read of the same unit, function and address. -/
def Obligations.PciReadback : Prop :=
  ∀ (s : State) (u : PciUnit) (fn : FnIndex) (a v : Byte) (rest : List HostRequest),
    s.phase = .live → s.params.wf = true →
    s.input = .word (encodeTransaction (.cfgw (slotOf s.params u) fn a v))
        :: .word (encodeTransaction (.cfgr (slotOf s.params u) fn a)) :: rest →
      ∃ t, core.run 2 s = .next t
        ∧ t.readData = s.readData
            ++ [.byte
                 (if fn ≠ 0 then 0xFF
                  else if pciReadOnly s.params u a then readPci s u a
                  else if a = 0x04 then v &&& commandMask s.params u
                  else if u = .hb ∧ (hbMask s.params a).isSome then v &&& (hbMask s.params a).getD 0xFF
                  else v)]
        ∧ (fn ≠ 0 → t.chip = s.chip)

/-- R238, R209: a configuration transaction on a live block completes and changes nothing but the
configuration spaces and the read data. -/
def Obligations.PciTransactionsTouchOnlyPci : Prop :=
  ∀ (s : State) (x : Transaction) (rest : List HostRequest),
    s.phase = .live →
    ((∃ d fn a, x = .cfgr d fn a) ∨ (∃ d fn a v, x = .cfgw d fn a v)) →
    s.input = .word (encodeTransaction x) :: rest →
      ∃ t, step s = .next t
        ∧ t = { s with
            input := rest
            readData := t.readData
            chip := { s.chip with pci := t.chip.pci } }

/-! The lifecycle. -/

/-- R270, R255: from phase Absent a well-formed block is constructed, its registers at the power-on values
of R39 and its registrations made in order, or the construction fails and changes the phase alone; the
outcome is a draw (a free value, log 4), and the statement holds for either; its word. -/
def Obligations.PowerOnConstructsOrFails : Prop :=
  (∀ p : Params, encode p .poweron = 0x80000000)
  ∧ ∀ s : State, s.phase = .absent → s.params.wf = true →
    ∃ t, exec .poweron s = .next t
      ∧ (Config.constructionSucceeds s.draws = true →
          t.phase = .live ∧ t.chip.isaIndex = 0 ∧ (∀ a, readIsa t a = 0)
          ∧ (∀ w, (window t w).base = 0 ∧ (window t w).index = 0 ∧ ∀ a, RegFile.read (window t w).reg a = 0)
          ∧ (∀ u a, readPci t u a = constructionByte s.params u a)
          ∧ (∀ k : Fin 13, t.region[k] = .unknown) ∧ t.smramVisible = .unknown
          ∧ t.shadowWriteAny = false ∧ t.shadowReadAny = false
          ∧ t.trace = s.trace ++ [.portReg 0x22 2 .primary, .pciReg s.params.slotHb .hb,
              .pciReg s.params.slotBr .br, .pciReg s.params.slotSt .st]
          ∧ t.params = s.params ∧ t.readData = s.readData ∧ t.input = s.input ∧ t.draws = s.draws + 1)
      ∧ (Config.constructionSucceeds s.draws = false →
          t = { s with phase := .failed, draws := s.draws + 1 })

/-- A parameter set that is not well formed is refused by name when the block is constructed: R12 and R254
give the reason, the model chooses the point at which it is raised (log 6). -/
def Obligations.IllFormedParametersAreRefused : Prop :=
  ∀ (s : State) (rest : List HostRequest), s.phase = .absent → s.params.wf = false →
    s.input = .word 0x80000000 :: rest → step s = .refused .badParameters

/-- R272: a reset clears the primary registers, forces 0x7B to 0xFF and, where RESET_RECALC holds,
forwards SMRAM off and recalculates; everything else is unchanged; its word. -/
def Obligations.ResetClearsThePrimaryRegisters : Prop :=
  (∀ p : Params, encode p .reset = 0xA0000000)
  ∧ ∀ s : State, ∃ t, exec .reset s = .next t
    ∧ (∀ a, readIsa t a = if a = 0x7B then 0xFF else 0)
    ∧ (s.params.resetRecalc = false → OnlyIsaRegisters s t)
    ∧ (s.params.resetRecalc = true →
        Recalculated s t
          [.smramSet s.params.smramCtx s.params.smramBase s.params.smramSize false]
        ∧ t.smramVisible = .forwarded false ∧ t.shadowWriteAny = false ∧ t.shadowReadAny = false
        ∧ (∀ k : Fin 13, t.region[k] = .applied .readPassthrough .writePassthrough)
        ∧ OnlyShadowState s t)

/-- R273: a teardown unregisters the mapped windows, host-bus first, then the primary ports, releases the
three units and leaves the phase Destroyed; nothing else changes; its word. -/
def Obligations.DestroyReleasesEverything : Prop :=
  (∀ p : Params, encode p .destroy = 0xC0000000)
  ∧ ∀ s : State, ∃ t, exec .destroy s = .next t
    ∧ t.phase = .destroyed
    ∧ t.trace = s.trace
        ++ (if s.chip.hostWin.base = 0 then [] else [Effect.portUnreg s.chip.hostWin.base 5 .hostBus])
        ++ (if s.chip.localWin.base = 0 then [] else [Effect.portUnreg s.chip.localWin.base 5 .localBus])
        ++ [.portUnreg 0x22 2 .primary, .pciRelease s.params.slotHb, .pciRelease s.params.slotBr,
            .pciRelease s.params.slotSt]
    ∧ t = { s with phase := t.phase, trace := t.trace }

/-- R39: the values of the state right after reset. That `State.reset` is a power-on followed by a reset is
the model's choice (log 2). -/
def Obligations.ResetStateHasTheRulesValues : Prop :=
  State.reset.phase = .live
  ∧ State.reset.chip.isaIndex = 0
  ∧ (∀ a, readIsa State.reset a = if a = 0x7B then 0xFF else 0)
  ∧ (∀ w, (window State.reset w).base = 0 ∧ (window State.reset w).index = 0
      ∧ ∀ a, RegFile.read (window State.reset w).reg a = 0)
  ∧ (∀ u a, readPci State.reset u a = constructionByte Config.params u a)
  ∧ (∀ k : Fin 13, State.reset.region[k]
      = if Config.params.resetRecalc then .applied .readPassthrough .writePassthrough else .unknown)
  ∧ State.reset.smramVisible = (if Config.params.resetRecalc then .forwarded false else .unknown)
  ∧ State.reset.shadowWriteAny = false ∧ State.reset.shadowReadAny = false

/-- The reset state is what RESET makes of a block just constructed (the model's choice, log 2). -/
def Obligations.ResetStateFollowsConstruction : Prop :=
  exec .reset (construct (drawConstruction (State.absent Config.params))) = .next State.reset

/-! Invariants that every step keeps. -/

/-- R34 (b), R208: what each owner has registered stays exactly what the bases say. -/
def Obligations.RegistrationsAgreeIsKept : Prop :=
  ∀ s t : State, SilentUnlessConstructed s → RegistrationsAgree s → step s = .next t →
    SilentUnlessConstructed t ∧ RegistrationsAgree t

/-- R203, R34 (b): no owner ever holds two ranges, at any point of the trace. -/
def Obligations.NeverDoubleRegisteredIsKept : Prop :=
  ∀ s t : State, SilentUnlessConstructed s → RegistrationsAgree s → NeverDoubleRegistered s →
    step s = .next t → NeverDoubleRegistered t

/-- R220, R273: the PCI bus manager's table stays exactly what the phase says. -/
def Obligations.PciRegistrationsAgreeIsKept : Prop :=
  ∀ s t : State, PciRegistrationsAgree s → step s = .next t → PciRegistrationsAgree t

/-- R28, R29: the model's region and SMRAM state stays what the address-space manager was last given. -/
def Obligations.AppliedStateAgreesIsKept : Prop :=
  ∀ s t : State, SilentUnlessConstructed s → AppliedStateAgrees s → step s = .next t →
    AppliedStateAgrees t

/-- R34 (c), R185: the region state and the flags stay those of the shadow-control bytes at the last
recalculation. -/
def Obligations.RegionsCoherentIsKept : Prop :=
  ∀ s t : State, RegionsCoherent s → step s = .next t → RegionsCoherent t

/-- R35, R150: masked-off bits of the primary registers stay zero. -/
def Obligations.MaskedBitsStayZero : Prop :=
  ∀ s t : State, MaskedBitsZero s → step s = .next t → MaskedBitsZero t

/-- R34 (d), R222, R228: read-only PCI bytes keep their construction values and masked ones stay within
their masks; the parameters of a live block stay well formed. -/
def Obligations.PciBytesStayProtected : Prop :=
  ∀ s t : State, LiveParametersWellFormed s → PciBytesProtected s → step s = .next t →
    LiveParametersWellFormed t ∧ PciBytesProtected t

/-- R27, R202: no window ever runs past port 0xFFFF. -/
def Obligations.WindowsStayInThePortSpace : Prop :=
  ∀ s t : State, WindowsFit s → step s = .next t → WindowsFit t

/-- The state right after reset meets every invariant. -/
def Obligations.ResetStateMeetsTheInvariants : Prop :=
  SilentUnlessConstructed State.reset ∧ RegistrationsAgree State.reset
  ∧ NeverDoubleRegistered State.reset ∧ PciRegistrationsAgree State.reset
  ∧ AppliedStateAgrees State.reset ∧ RegionsCoherent State.reset ∧ MaskedBitsZero State.reset
  ∧ LiveParametersWellFormed State.reset ∧ PciBytesProtected State.reset ∧ WindowsFit State.reset
end

