-- ==== Sys2Proof/Laws/Decode.lean ====
section
/-! SUPPORT. Fields of a word and transactions: the encoder of transactions and `parseWord` are
inverse, and a slot names the unit it belongs to. -/

namespace Sys2Proof

open Machine

/-! The fields of a word laid out in format IO, CFG or LC (R92 to R94). -/

/-- The four fields of a word in format IO (R92). -/
theorem io_fields (k : BitVec 3) (z : BitVec 5) (p : Port) (v : Byte) :
    kindField (k ++ z ++ p ++ v) = k ∧ ioZeroField (k ++ z ++ p ++ v) = z
    ∧ portField (k ++ z ++ p ++ v) = p ∧ dataField (k ++ z ++ p ++ v) = v := by
  unfold kindField ioZeroField portField dataField
  refine ⟨?_, ?_, ?_, ?_⟩ <;>
    (ext i hi
     rw [BitVec.getElem_extractLsb', ← BitVec.getLsbD_eq_getElem]
     change BitVec.getLsbD (w := 3 + 5 + 16 + 8) (k ++ z ++ p ++ v) _ = _
     simp only [BitVec.getLsbD_append]
     repeat' split
     all_goals first | omega | (congr 1; omega))

/-- The six fields of a word in format CFG (R93). -/
theorem cfg_fields (k : BitVec 3) (s : Slot) (fn : FnIndex) (z : BitVec 5) (a v : Byte) :
    kindField (k ++ s ++ fn ++ z ++ a ++ v) = k ∧ slotField (k ++ s ++ fn ++ z ++ a ++ v) = s
    ∧ fnField (k ++ s ++ fn ++ z ++ a ++ v) = fn ∧ cfgZeroField (k ++ s ++ fn ++ z ++ a ++ v) = z
    ∧ addrField (k ++ s ++ fn ++ z ++ a ++ v) = a ∧ dataField (k ++ s ++ fn ++ z ++ a ++ v) = v := by
  unfold kindField slotField fnField cfgZeroField addrField dataField
  refine ⟨?_, ?_, ?_, ?_, ?_, ?_⟩ <;>
    (ext i hi
     rw [BitVec.getElem_extractLsb', ← BitVec.getLsbD_eq_getElem]
     change BitVec.getLsbD (w := 3 + 5 + 3 + 5 + 8 + 8) (k ++ s ++ fn ++ z ++ a ++ v) _ = _
     simp only [BitVec.getLsbD_append]
     repeat' split
     all_goals first | omega | (congr 1; omega))

/-! A word is the concatenation of its fields. -/

theorem word_of_io_fields (w : Word) :
    kindField w ++ ioZeroField w ++ portField w ++ dataField w = w := by
  apply BitVec.eq_of_getLsbD_eq
  intro i hi
  simp only [BitVec.getLsbD_append, kindField, ioZeroField, portField, dataField,
    BitVec.getLsbD_extractLsb']
  repeat' split
  all_goals (rw [decide_eq_true (by omega), Bool.true_and]; congr 1; omega)

theorem word_of_cfg_fields (w : Word) :
    kindField w ++ slotField w ++ fnField w ++ cfgZeroField w ++ addrField w ++ dataField w = w := by
  apply BitVec.eq_of_getLsbD_eq
  intro i hi
  simp only [BitVec.getLsbD_append, kindField, slotField, fnField, cfgZeroField, addrField,
    dataField, BitVec.getLsbD_extractLsb']
  repeat' split
  all_goals (rw [decide_eq_true (by omega), Bool.true_and]; congr 1; omega)

theorem word_of_lc_fields (w : Word) : kindField w ++ lcZeroField w = w := by
  apply BitVec.eq_of_getLsbD_eq
  intro i hi
  simp only [BitVec.getLsbD_append, kindField, lcZeroField, BitVec.getLsbD_extractLsb']
  repeat' split
  all_goals (rw [decide_eq_true (by omega), Bool.true_and]; congr 1; omega)

/-! Transactions. -/

/-- Parsing the word of a transaction gives the transaction back: no bit of it is dropped. -/
theorem parseWord_encodeTransaction (t : Transaction) :
    parseWord (encodeTransaction t) = some t := by
  cases t with
  | ior p =>
    obtain ⟨hk, hz, hp, hd⟩ := io_fields 0b000#3 0#5 p 0#8
    simp only [encodeTransaction, parseWord, hk, hz, hp, hd]
    rfl
  | iow p v =>
    obtain ⟨hk, hz, hp, hd⟩ := io_fields 0b001#3 0#5 p v
    simp only [encodeTransaction, parseWord, hk, hz, hp, hd]
    rfl
  | cfgr s fn a =>
    obtain ⟨hk, hs, hf, hz, ha, hd⟩ := cfg_fields 0b010#3 s fn 0#5 a 0#8
    simp only [encodeTransaction, parseWord, hk, hs, hf, hz, ha, hd]
    rfl
  | cfgw s fn a v =>
    obtain ⟨hk, hs, hf, hz, ha, hd⟩ := cfg_fields 0b011#3 s fn 0#5 a v
    simp only [encodeTransaction, parseWord, hk, hs, hf, hz, ha, hd]
    rfl
  | poweron => decide
  | reset => decide
  | destroy => decide

/-- A word that parses is the word of its transaction: a valid word has one reading. -/
theorem encodeTransaction_of_parseWord (w : Word) (t : Transaction) (h : parseWord w = some t) :
    encodeTransaction t = w := by
  have hio := word_of_io_fields w
  have hcfg := word_of_cfg_fields w
  have hlc := word_of_lc_fields w
  unfold parseWord at h
  split at h
  · next hk =>
    split at h
    · next hz =>
      obtain ⟨hz, hd⟩ := hz
      rw [hk, hz, hd] at hio
      cases h
      exact hio
    · cases h
  split at h
  · next hk =>
    split at h
    · next hz =>
      rw [hk, hz] at hio
      cases h
      exact hio
    · cases h
  split at h
  · next hk =>
    split at h
    · next hz =>
      obtain ⟨hz, hd⟩ := hz
      rw [hk, hz, hd] at hcfg
      cases h
      exact hcfg
    · cases h
  split at h
  · next hk =>
    split at h
    · next hz =>
      rw [hk, hz] at hcfg
      cases h
      exact hcfg
    · cases h
  split at h
  · next hk =>
    split at h
    · next hz =>
      rw [hk, hz] at hlc
      cases h
      exact hlc
    · cases h
  split at h
  · next hk =>
    split at h
    · next hz =>
      rw [hk, hz] at hlc
      cases h
      exact hlc
    · cases h
  split at h
  · next hk =>
    split at h
    · next hz =>
      rw [hk, hz] at hlc
      cases h
      exact hlc
    · cases h
  · cases h

/-! Slots and units. -/

/-- In a well-formed parameter set the three slots differ (R12). -/
theorem slots_distinct (p : Params) (h : p.wf = true) :
    p.slotHb ≠ p.slotBr ∧ p.slotHb ≠ p.slotSt ∧ p.slotBr ≠ p.slotSt := by
  simp only [Params.wf, Bool.and_eq_true, decide_eq_true_eq] at h
  have hn := h.1.1.1
  simp only [List.nodup_cons, List.mem_cons, List.not_mem_nil, or_false, not_or] at hn
  exact ⟨hn.1.1, hn.1.2, hn.2.1⟩

/-- A slot that names a unit is that unit's slot. -/
theorem slotOf_of_unitAt (p : Params) (s : Slot) (u : PciUnit) (h : unitAt p s = some u) :
    slotOf p u = s := by
  unfold unitAt at h
  split at h
  · next e => cases h; exact e.symm
  split at h
  · next e => cases h; exact e.symm
  split at h
  · next e => cases h; exact e.symm
  · cases h

/-- A unit's slot names that unit, the slots being distinct (R220). -/
theorem unitAt_slotOf (p : Params) (h : p.wf = true) (u : PciUnit) :
    unitAt p (slotOf p u) = some u := by
  obtain ⟨h1, h2, h3⟩ := slots_distinct p h
  cases u
  · simp [unitAt, slotOf]
  · simp [unitAt, slotOf, Ne.symm h1]
  · simp [unitAt, slotOf, Ne.symm h2, Ne.symm h3]

/-- The command register is read-only for no unit of a well-formed set (R12, R224). -/
theorem command_not_readOnly (p : Params) (h : p.wf = true) (u : PciUnit) :
    pciReadOnly p u Config.pciCmd = false := by
  simp only [Params.wf, Bool.and_eq_true, List.all_eq_true, decide_eq_true_eq] at h
  have hb := h.1.2
  have h0 := hb p.hbRoExtra0 (by simp [Params.hbAddrs])
  have h1 := hb p.hbRoExtra1 (by simp [Params.hbAddrs])
  simp only [bne_iff_ne, ne_eq] at h0 h1
  have hr : Config.pciCmd ∉ Config.roBase := by decide
  simp [pciReadOnly, hr, Ne.symm h0.2, Ne.symm h1.2]

end Sys2Proof
end

