-- ==== Sys2Proof/Laws/RegFile.lean ====
section
/-! SUPPORT. Read after write for register files and PCI configuration spaces, and the contents right
after construction and reset. -/

namespace Sys2Proof

@[simp] theorem RegFile.read_write_same (f : RegFile) (a v : Byte) :
    RegFile.read (RegFile.write f a v) a = v := by
  simp [RegFile.read, RegFile.write]

theorem RegFile.read_write_other (f : RegFile) (a v x : Byte) (h : x ≠ a) :
    RegFile.read (RegFile.write f a v) x = RegFile.read f x := by
  have hn : a.toNat ≠ x.toNat := fun e => h (BitVec.eq_of_toNat_eq e.symm)
  simp [RegFile.read, RegFile.write, hn]

theorem RegFile.read_write (f : RegFile) (a v x : Byte) :
    RegFile.read (RegFile.write f a v) x = if x = a then v else RegFile.read f x := by
  split
  · next h => rw [h, RegFile.read_write_same]
  · next h => exact RegFile.read_write_other f a v x h

@[simp] theorem RegFile.read_zero (a : Byte) : RegFile.read RegFile.zero a = 0 := by
  simp [RegFile.read, RegFile.zero]

/-- Two register files that read alike are equal. -/
theorem RegFile.ext_read (f g : RegFile) (h : ∀ a, RegFile.read f a = RegFile.read g a) : f = g := by
  apply Vector.ext
  intro i hi
  have := h (BitVec.ofNat 8 i)
  simpa [RegFile.read, Nat.mod_eq_of_lt hi] using this

namespace Machine

theorem PciSpaces.read_write (s : PciSpaces) (u w : PciUnit) (a v x : Byte) :
    (s.write u a v).read w x = if w = u ∧ x = a then v else s.read w x := by
  cases u <;> cases w <;>
    simp [PciSpaces.read, PciSpaces.write, PciSpaces.space, RegFile.read_write]

/-- Writing a list of bytes, each the value of one function, leaves that function's value where the
list names the address and the old byte elsewhere. -/
theorem read_foldl_write (g : Byte → Byte) (addrs : List Byte) (f : RegFile) (x : Byte) :
    RegFile.read (addrs.foldl (fun f a => RegFile.write f a (g a)) f) x
      = if x ∈ addrs then g x else RegFile.read f x := by
  induction addrs generalizing f with
  | nil => simp
  | cons a rest ih =>
    rw [List.foldl_cons, ih, RegFile.read_write]
    by_cases h : x = a <;> by_cases hm : x ∈ rest <;> simp [h, hm]

/-- Outside the identity addresses a construction byte is zero (R222). -/
theorem constructionByte_of_not_identity (p : Params) (u : PciUnit) (a : Byte)
    (h : a ∉ identityAddrs) : constructionByte p u a = 0 := by
  simp only [identityAddrs, List.mem_cons, List.not_mem_nil, or_false, not_or] at h
  obtain ⟨h0, h1, h2, h3, h4, h5, h6, h7, h8⟩ := h
  simp only [constructionByte, if_neg h0, if_neg h1, if_neg h2, if_neg h3, if_neg h4, if_neg h5,
    if_neg h6, if_neg h7, if_neg h8]

/-- A unit's space right after construction holds its construction bytes (R222, R270). -/
theorem read_constructionSpace (p : Params) (u : PciUnit) (a : Byte) :
    RegFile.read (constructionSpace p u) a = constructionByte p u a := by
  rw [constructionSpace, read_foldl_write]
  split
  · rfl
  · next h => rw [constructionByte_of_not_identity p u a h, RegFile.read_zero]

/-- Right after construction every PCI byte is its construction byte (R222, R270). -/
theorem read_constructionPci (p : Params) (u : PciUnit) (a : Byte) :
    (constructionPci p).read u a = constructionByte p u a := by
  cases u <;> exact read_constructionSpace p _ a

/-- A reset leaves 0xFF in 0x7B and zero everywhere else (R272). -/
theorem read_resetRegisters (a : Byte) :
    RegFile.read resetRegisters a = if a = Config.resetFfReg then 0xFF else 0 := by
  rw [resetRegisters, RegFile.read_write, RegFile.read_zero]

end Machine

end Sys2Proof
end

