-- ==== Sys2Proof/Laws/State.lean ====
section
/-! SUPPORT. For each shared operation, each field of the state it gives: one lemma per field, so that no
later proof unfolds a record update. -/

namespace Sys2Proof.Machine

/-! answer -/

@[simp] theorem answer_params (s : State) (r : ReadResult) : (answer s r).params = s.params := rfl
@[simp] theorem answer_phase (s : State) (r : ReadResult) : (answer s r).phase = s.phase := rfl
@[simp] theorem answer_region (s : State) (r : ReadResult) : (answer s r).region = s.region := rfl
@[simp] theorem answer_smramVisible (s : State) (r : ReadResult) : (answer s r).smramVisible = s.smramVisible := rfl
@[simp] theorem answer_shadowWriteAny (s : State) (r : ReadResult) : (answer s r).shadowWriteAny = s.shadowWriteAny := rfl
@[simp] theorem answer_shadowReadAny (s : State) (r : ReadResult) : (answer s r).shadowReadAny = s.shadowReadAny := rfl
@[simp] theorem answer_trace (s : State) (r : ReadResult) : (answer s r).trace = s.trace := rfl
@[simp] theorem answer_readData (s : State) (r : ReadResult) : (answer s r).readData = s.readData ++ [r] := rfl
@[simp] theorem answer_input (s : State) (r : ReadResult) : (answer s r).input = s.input := rfl
@[simp] theorem answer_draws (s : State) (r : ReadResult) : (answer s r).draws = s.draws := rfl
@[simp] theorem answer_chip (s : State) (r : ReadResult) : (answer s r).chip = s.chip := rfl

/-! emit -/

@[simp] theorem emit_params (s : State) (es : List Effect) : (emit s es).params = s.params := rfl
@[simp] theorem emit_phase (s : State) (es : List Effect) : (emit s es).phase = s.phase := rfl
@[simp] theorem emit_region (s : State) (es : List Effect) : (emit s es).region = s.region := rfl
@[simp] theorem emit_smramVisible (s : State) (es : List Effect) : (emit s es).smramVisible = s.smramVisible := rfl
@[simp] theorem emit_shadowWriteAny (s : State) (es : List Effect) : (emit s es).shadowWriteAny = s.shadowWriteAny := rfl
@[simp] theorem emit_shadowReadAny (s : State) (es : List Effect) : (emit s es).shadowReadAny = s.shadowReadAny := rfl
@[simp] theorem emit_trace (s : State) (es : List Effect) : (emit s es).trace = s.trace ++ es := rfl
@[simp] theorem emit_readData (s : State) (es : List Effect) : (emit s es).readData = s.readData := rfl
@[simp] theorem emit_input (s : State) (es : List Effect) : (emit s es).input = s.input := rfl
@[simp] theorem emit_draws (s : State) (es : List Effect) : (emit s es).draws = s.draws := rfl
@[simp] theorem emit_chip (s : State) (es : List Effect) : (emit s es).chip = s.chip := rfl

/-! writeIsa -/

@[simp] theorem writeIsa_params (s : State) (a v : Byte) : (writeIsa s a v).params = s.params := rfl
@[simp] theorem writeIsa_phase (s : State) (a v : Byte) : (writeIsa s a v).phase = s.phase := rfl
@[simp] theorem writeIsa_region (s : State) (a v : Byte) : (writeIsa s a v).region = s.region := rfl
@[simp] theorem writeIsa_smramVisible (s : State) (a v : Byte) : (writeIsa s a v).smramVisible = s.smramVisible := rfl
@[simp] theorem writeIsa_shadowWriteAny (s : State) (a v : Byte) : (writeIsa s a v).shadowWriteAny = s.shadowWriteAny := rfl
@[simp] theorem writeIsa_shadowReadAny (s : State) (a v : Byte) : (writeIsa s a v).shadowReadAny = s.shadowReadAny := rfl
@[simp] theorem writeIsa_trace (s : State) (a v : Byte) : (writeIsa s a v).trace = s.trace := rfl
@[simp] theorem writeIsa_readData (s : State) (a v : Byte) : (writeIsa s a v).readData = s.readData := rfl
@[simp] theorem writeIsa_input (s : State) (a v : Byte) : (writeIsa s a v).input = s.input := rfl
@[simp] theorem writeIsa_draws (s : State) (a v : Byte) : (writeIsa s a v).draws = s.draws := rfl
@[simp] theorem writeIsa_isaIndex (s : State) (a v : Byte) : (writeIsa s a v).chip.isaIndex = s.chip.isaIndex := rfl
@[simp] theorem writeIsa_isaRegisters (s : State) (a v : Byte) : (writeIsa s a v).chip.isaRegisters = RegFile.write s.chip.isaRegisters a v := rfl
@[simp] theorem writeIsa_hostWin (s : State) (a v : Byte) : (writeIsa s a v).chip.hostWin = s.chip.hostWin := rfl
@[simp] theorem writeIsa_localWin (s : State) (a v : Byte) : (writeIsa s a v).chip.localWin = s.chip.localWin := rfl
@[simp] theorem writeIsa_pci (s : State) (a v : Byte) : (writeIsa s a v).chip.pci = s.chip.pci := rfl

/-! writeIsaIndex -/

@[simp] theorem writeIsaIndex_params (s : State) (v : Byte) : (writeIsaIndex s v).params = s.params := rfl
@[simp] theorem writeIsaIndex_phase (s : State) (v : Byte) : (writeIsaIndex s v).phase = s.phase := rfl
@[simp] theorem writeIsaIndex_region (s : State) (v : Byte) : (writeIsaIndex s v).region = s.region := rfl
@[simp] theorem writeIsaIndex_smramVisible (s : State) (v : Byte) : (writeIsaIndex s v).smramVisible = s.smramVisible := rfl
@[simp] theorem writeIsaIndex_shadowWriteAny (s : State) (v : Byte) : (writeIsaIndex s v).shadowWriteAny = s.shadowWriteAny := rfl
@[simp] theorem writeIsaIndex_shadowReadAny (s : State) (v : Byte) : (writeIsaIndex s v).shadowReadAny = s.shadowReadAny := rfl
@[simp] theorem writeIsaIndex_trace (s : State) (v : Byte) : (writeIsaIndex s v).trace = s.trace := rfl
@[simp] theorem writeIsaIndex_readData (s : State) (v : Byte) : (writeIsaIndex s v).readData = s.readData := rfl
@[simp] theorem writeIsaIndex_input (s : State) (v : Byte) : (writeIsaIndex s v).input = s.input := rfl
@[simp] theorem writeIsaIndex_draws (s : State) (v : Byte) : (writeIsaIndex s v).draws = s.draws := rfl
@[simp] theorem writeIsaIndex_isaIndex (s : State) (v : Byte) : (writeIsaIndex s v).chip.isaIndex = v := rfl
@[simp] theorem writeIsaIndex_isaRegisters (s : State) (v : Byte) : (writeIsaIndex s v).chip.isaRegisters = s.chip.isaRegisters := rfl
@[simp] theorem writeIsaIndex_hostWin (s : State) (v : Byte) : (writeIsaIndex s v).chip.hostWin = s.chip.hostWin := rfl
@[simp] theorem writeIsaIndex_localWin (s : State) (v : Byte) : (writeIsaIndex s v).chip.localWin = s.chip.localWin := rfl
@[simp] theorem writeIsaIndex_pci (s : State) (v : Byte) : (writeIsaIndex s v).chip.pci = s.chip.pci := rfl

/-! writePci -/

@[simp] theorem writePci_params (s : State) (u : PciUnit) (a v : Byte) : (writePci s u a v).params = s.params := rfl
@[simp] theorem writePci_phase (s : State) (u : PciUnit) (a v : Byte) : (writePci s u a v).phase = s.phase := rfl
@[simp] theorem writePci_region (s : State) (u : PciUnit) (a v : Byte) : (writePci s u a v).region = s.region := rfl
@[simp] theorem writePci_smramVisible (s : State) (u : PciUnit) (a v : Byte) : (writePci s u a v).smramVisible = s.smramVisible := rfl
@[simp] theorem writePci_shadowWriteAny (s : State) (u : PciUnit) (a v : Byte) : (writePci s u a v).shadowWriteAny = s.shadowWriteAny := rfl
@[simp] theorem writePci_shadowReadAny (s : State) (u : PciUnit) (a v : Byte) : (writePci s u a v).shadowReadAny = s.shadowReadAny := rfl
@[simp] theorem writePci_trace (s : State) (u : PciUnit) (a v : Byte) : (writePci s u a v).trace = s.trace := rfl
@[simp] theorem writePci_readData (s : State) (u : PciUnit) (a v : Byte) : (writePci s u a v).readData = s.readData := rfl
@[simp] theorem writePci_input (s : State) (u : PciUnit) (a v : Byte) : (writePci s u a v).input = s.input := rfl
@[simp] theorem writePci_draws (s : State) (u : PciUnit) (a v : Byte) : (writePci s u a v).draws = s.draws := rfl
@[simp] theorem writePci_isaIndex (s : State) (u : PciUnit) (a v : Byte) : (writePci s u a v).chip.isaIndex = s.chip.isaIndex := rfl
@[simp] theorem writePci_isaRegisters (s : State) (u : PciUnit) (a v : Byte) : (writePci s u a v).chip.isaRegisters = s.chip.isaRegisters := rfl
@[simp] theorem writePci_hostWin (s : State) (u : PciUnit) (a v : Byte) : (writePci s u a v).chip.hostWin = s.chip.hostWin := rfl
@[simp] theorem writePci_localWin (s : State) (u : PciUnit) (a v : Byte) : (writePci s u a v).chip.localWin = s.chip.localWin := rfl
@[simp] theorem writePci_pci (s : State) (u : PciUnit) (a v : Byte) : (writePci s u a v).chip.pci = s.chip.pci.write u a v := rfl

/-! clearRegisters -/

@[simp] theorem clearRegisters_params (s : State) : (clearRegisters s).params = s.params := rfl
@[simp] theorem clearRegisters_phase (s : State) : (clearRegisters s).phase = s.phase := rfl
@[simp] theorem clearRegisters_region (s : State) : (clearRegisters s).region = s.region := rfl
@[simp] theorem clearRegisters_smramVisible (s : State) : (clearRegisters s).smramVisible = s.smramVisible := rfl
@[simp] theorem clearRegisters_shadowWriteAny (s : State) : (clearRegisters s).shadowWriteAny = s.shadowWriteAny := rfl
@[simp] theorem clearRegisters_shadowReadAny (s : State) : (clearRegisters s).shadowReadAny = s.shadowReadAny := rfl
@[simp] theorem clearRegisters_trace (s : State) : (clearRegisters s).trace = s.trace := rfl
@[simp] theorem clearRegisters_readData (s : State) : (clearRegisters s).readData = s.readData := rfl
@[simp] theorem clearRegisters_input (s : State) : (clearRegisters s).input = s.input := rfl
@[simp] theorem clearRegisters_draws (s : State) : (clearRegisters s).draws = s.draws := rfl
@[simp] theorem clearRegisters_isaIndex (s : State) : (clearRegisters s).chip.isaIndex = s.chip.isaIndex := rfl
@[simp] theorem clearRegisters_isaRegisters (s : State) : (clearRegisters s).chip.isaRegisters = resetRegisters := rfl
@[simp] theorem clearRegisters_hostWin (s : State) : (clearRegisters s).chip.hostWin = s.chip.hostWin := rfl
@[simp] theorem clearRegisters_localWin (s : State) : (clearRegisters s).chip.localWin = s.chip.localWin := rfl
@[simp] theorem clearRegisters_pci (s : State) : (clearRegisters s).chip.pci = s.chip.pci := rfl

/-! smramForward -/

@[simp] theorem smramForward_params (s : State) (en : Bool) : (smramForward s en).params = s.params := rfl
@[simp] theorem smramForward_phase (s : State) (en : Bool) : (smramForward s en).phase = s.phase := rfl
@[simp] theorem smramForward_region (s : State) (en : Bool) : (smramForward s en).region = s.region := rfl
@[simp] theorem smramForward_smramVisible (s : State) (en : Bool) : (smramForward s en).smramVisible = .forwarded en := rfl
@[simp] theorem smramForward_shadowWriteAny (s : State) (en : Bool) : (smramForward s en).shadowWriteAny = s.shadowWriteAny := rfl
@[simp] theorem smramForward_shadowReadAny (s : State) (en : Bool) : (smramForward s en).shadowReadAny = s.shadowReadAny := rfl
@[simp] theorem smramForward_trace (s : State) (en : Bool) : (smramForward s en).trace = s.trace ++ [smramEffect s.params en] := rfl
@[simp] theorem smramForward_readData (s : State) (en : Bool) : (smramForward s en).readData = s.readData := rfl
@[simp] theorem smramForward_input (s : State) (en : Bool) : (smramForward s en).input = s.input := rfl
@[simp] theorem smramForward_draws (s : State) (en : Bool) : (smramForward s en).draws = s.draws := rfl
@[simp] theorem smramForward_chip (s : State) (en : Bool) : (smramForward s en).chip = s.chip := rfl

/-! recalc -/

@[simp] theorem recalc_params (s : State) : (recalc s).params = s.params := rfl
@[simp] theorem recalc_phase (s : State) : (recalc s).phase = s.phase := rfl
@[simp] theorem recalc_region (s : State) : (recalc s).region = regionStates (shadowBytes s.chip.isaRegisters) := rfl
@[simp] theorem recalc_smramVisible (s : State) : (recalc s).smramVisible = s.smramVisible := rfl
@[simp] theorem recalc_shadowWriteAny (s : State) : (recalc s).shadowWriteAny = shadowWriteFlag (shadowBytes s.chip.isaRegisters) := rfl
@[simp] theorem recalc_shadowReadAny (s : State) : (recalc s).shadowReadAny = shadowReadFlag (shadowBytes s.chip.isaRegisters) := rfl
@[simp] theorem recalc_trace (s : State) : (recalc s).trace = s.trace ++ recalcEffects (shadowBytes s.chip.isaRegisters) := rfl
@[simp] theorem recalc_readData (s : State) : (recalc s).readData = s.readData := rfl
@[simp] theorem recalc_input (s : State) : (recalc s).input = s.input := rfl
@[simp] theorem recalc_draws (s : State) : (recalc s).draws = s.draws := rfl
@[simp] theorem recalc_chip (s : State) : (recalc s).chip = s.chip := rfl

/-! drawConstruction -/

@[simp] theorem drawConstruction_params (s : State) : (drawConstruction s).params = s.params := rfl
@[simp] theorem drawConstruction_phase (s : State) : (drawConstruction s).phase = s.phase := rfl
@[simp] theorem drawConstruction_region (s : State) : (drawConstruction s).region = s.region := rfl
@[simp] theorem drawConstruction_smramVisible (s : State) : (drawConstruction s).smramVisible = s.smramVisible := rfl
@[simp] theorem drawConstruction_shadowWriteAny (s : State) : (drawConstruction s).shadowWriteAny = s.shadowWriteAny := rfl
@[simp] theorem drawConstruction_shadowReadAny (s : State) : (drawConstruction s).shadowReadAny = s.shadowReadAny := rfl
@[simp] theorem drawConstruction_trace (s : State) : (drawConstruction s).trace = s.trace := rfl
@[simp] theorem drawConstruction_readData (s : State) : (drawConstruction s).readData = s.readData := rfl
@[simp] theorem drawConstruction_input (s : State) : (drawConstruction s).input = s.input := rfl
@[simp] theorem drawConstruction_draws (s : State) : (drawConstruction s).draws = s.draws + 1 := rfl
@[simp] theorem drawConstruction_chip (s : State) : (drawConstruction s).chip = s.chip := rfl

/-! constructionFailed -/

@[simp] theorem constructionFailed_params (s : State) : (constructionFailed s).params = s.params := rfl
@[simp] theorem constructionFailed_phase (s : State) : (constructionFailed s).phase = .failed := rfl
@[simp] theorem constructionFailed_region (s : State) : (constructionFailed s).region = s.region := rfl
@[simp] theorem constructionFailed_smramVisible (s : State) : (constructionFailed s).smramVisible = s.smramVisible := rfl
@[simp] theorem constructionFailed_shadowWriteAny (s : State) : (constructionFailed s).shadowWriteAny = s.shadowWriteAny := rfl
@[simp] theorem constructionFailed_shadowReadAny (s : State) : (constructionFailed s).shadowReadAny = s.shadowReadAny := rfl
@[simp] theorem constructionFailed_trace (s : State) : (constructionFailed s).trace = s.trace := rfl
@[simp] theorem constructionFailed_readData (s : State) : (constructionFailed s).readData = s.readData := rfl
@[simp] theorem constructionFailed_input (s : State) : (constructionFailed s).input = s.input := rfl
@[simp] theorem constructionFailed_draws (s : State) : (constructionFailed s).draws = s.draws := rfl
@[simp] theorem constructionFailed_chip (s : State) : (constructionFailed s).chip = s.chip := rfl

/-! construct -/

@[simp] theorem construct_params (s : State) : (construct s).params = s.params := rfl
@[simp] theorem construct_phase (s : State) : (construct s).phase = .live := rfl
@[simp] theorem construct_region (s : State) : (construct s).region = unknownRegions := rfl
@[simp] theorem construct_smramVisible (s : State) : (construct s).smramVisible = .unknown := rfl
@[simp] theorem construct_shadowWriteAny (s : State) : (construct s).shadowWriteAny = false := rfl
@[simp] theorem construct_shadowReadAny (s : State) : (construct s).shadowReadAny = false := rfl
@[simp] theorem construct_trace (s : State) : (construct s).trace = s.trace ++ powerOnEffects s.params := rfl
@[simp] theorem construct_readData (s : State) : (construct s).readData = s.readData := rfl
@[simp] theorem construct_input (s : State) : (construct s).input = s.input := rfl
@[simp] theorem construct_draws (s : State) : (construct s).draws = s.draws := rfl
@[simp] theorem construct_chip (s : State) : (construct s).chip = constructionChip s.params := rfl

/-! teardown -/

@[simp] theorem teardown_params (s : State) : (teardown s).params = s.params := rfl
@[simp] theorem teardown_phase (s : State) : (teardown s).phase = .destroyed := rfl
@[simp] theorem teardown_region (s : State) : (teardown s).region = s.region := rfl
@[simp] theorem teardown_smramVisible (s : State) : (teardown s).smramVisible = s.smramVisible := rfl
@[simp] theorem teardown_shadowWriteAny (s : State) : (teardown s).shadowWriteAny = s.shadowWriteAny := rfl
@[simp] theorem teardown_shadowReadAny (s : State) : (teardown s).shadowReadAny = s.shadowReadAny := rfl
@[simp] theorem teardown_trace (s : State) : (teardown s).trace = s.trace ++ teardownEffects s.params s.chip.hostWin.base s.chip.localWin.base := rfl
@[simp] theorem teardown_readData (s : State) : (teardown s).readData = s.readData := rfl
@[simp] theorem teardown_input (s : State) : (teardown s).input = s.input := rfl
@[simp] theorem teardown_draws (s : State) : (teardown s).draws = s.draws := rfl
@[simp] theorem teardown_chip (s : State) : (teardown s).chip = s.chip := rfl

/-! consume -/

@[simp] theorem consume_params (s : State) : (consume s).params = s.params := rfl
@[simp] theorem consume_phase (s : State) : (consume s).phase = s.phase := rfl
@[simp] theorem consume_region (s : State) : (consume s).region = s.region := rfl
@[simp] theorem consume_smramVisible (s : State) : (consume s).smramVisible = s.smramVisible := rfl
@[simp] theorem consume_shadowWriteAny (s : State) : (consume s).shadowWriteAny = s.shadowWriteAny := rfl
@[simp] theorem consume_shadowReadAny (s : State) : (consume s).shadowReadAny = s.shadowReadAny := rfl
@[simp] theorem consume_trace (s : State) : (consume s).trace = s.trace := rfl
@[simp] theorem consume_readData (s : State) : (consume s).readData = s.readData := rfl
@[simp] theorem consume_input (s : State) : (consume s).input = s.input.tail := rfl
@[simp] theorem consume_draws (s : State) : (consume s).draws = s.draws := rfl
@[simp] theorem consume_chip (s : State) : (consume s).chip = s.chip := rfl

/-! deliver -/

@[simp] theorem deliver_params (s : State) (w : Word) : (deliver s w).params = s.params := rfl
@[simp] theorem deliver_phase (s : State) (w : Word) : (deliver s w).phase = s.phase := rfl
@[simp] theorem deliver_region (s : State) (w : Word) : (deliver s w).region = s.region := rfl
@[simp] theorem deliver_smramVisible (s : State) (w : Word) : (deliver s w).smramVisible = s.smramVisible := rfl
@[simp] theorem deliver_shadowWriteAny (s : State) (w : Word) : (deliver s w).shadowWriteAny = s.shadowWriteAny := rfl
@[simp] theorem deliver_shadowReadAny (s : State) (w : Word) : (deliver s w).shadowReadAny = s.shadowReadAny := rfl
@[simp] theorem deliver_trace (s : State) (w : Word) : (deliver s w).trace = s.trace := rfl
@[simp] theorem deliver_readData (s : State) (w : Word) : (deliver s w).readData = s.readData := rfl
@[simp] theorem deliver_input (s : State) (w : Word) : (deliver s w).input = .word w :: s.input := rfl
@[simp] theorem deliver_draws (s : State) (w : Word) : (deliver s w).draws = s.draws := rfl
@[simp] theorem deliver_chip (s : State) (w : Word) : (deliver s w).chip = s.chip := rfl

/-! withWindow -/

@[simp] theorem withWindow_params (s : State) (w : WindowId) (x : Window) : (withWindow s w x).params = s.params := by cases w <;> rfl
@[simp] theorem withWindow_phase (s : State) (w : WindowId) (x : Window) : (withWindow s w x).phase = s.phase := by cases w <;> rfl
@[simp] theorem withWindow_region (s : State) (w : WindowId) (x : Window) : (withWindow s w x).region = s.region := by cases w <;> rfl
@[simp] theorem withWindow_smramVisible (s : State) (w : WindowId) (x : Window) : (withWindow s w x).smramVisible = s.smramVisible := by cases w <;> rfl
@[simp] theorem withWindow_shadowWriteAny (s : State) (w : WindowId) (x : Window) : (withWindow s w x).shadowWriteAny = s.shadowWriteAny := by cases w <;> rfl
@[simp] theorem withWindow_shadowReadAny (s : State) (w : WindowId) (x : Window) : (withWindow s w x).shadowReadAny = s.shadowReadAny := by cases w <;> rfl
@[simp] theorem withWindow_trace (s : State) (w : WindowId) (x : Window) : (withWindow s w x).trace = s.trace := by cases w <;> rfl
@[simp] theorem withWindow_readData (s : State) (w : WindowId) (x : Window) : (withWindow s w x).readData = s.readData := by cases w <;> rfl
@[simp] theorem withWindow_input (s : State) (w : WindowId) (x : Window) : (withWindow s w x).input = s.input := by cases w <;> rfl
@[simp] theorem withWindow_draws (s : State) (w : WindowId) (x : Window) : (withWindow s w x).draws = s.draws := by cases w <;> rfl
@[simp] theorem withWindow_isaIndex (s : State) (w : WindowId) (x : Window) : (withWindow s w x).chip.isaIndex = s.chip.isaIndex := by cases w <;> rfl
@[simp] theorem withWindow_isaRegisters (s : State) (w : WindowId) (x : Window) : (withWindow s w x).chip.isaRegisters = s.chip.isaRegisters := by cases w <;> rfl
@[simp] theorem withWindow_pci (s : State) (w : WindowId) (x : Window) : (withWindow s w x).chip.pci = s.chip.pci := by cases w <;> rfl

theorem withWindow_hostWin (s : State) (w : WindowId) (x : Window) :
    (withWindow s w x).chip.hostWin = if w = .hostBus then x else s.chip.hostWin := by
  cases w <;> rfl

theorem withWindow_localWin (s : State) (w : WindowId) (x : Window) :
    (withWindow s w x).chip.localWin = if w = .localBus then x else s.chip.localWin := by
  cases w <;> rfl

@[simp] theorem window_withWindow (s : State) (w : WindowId) (x : Window) :
    window (withWindow s w x) w = x := by
  cases w <;> rfl

/-! decodeContext -/

@[simp] theorem decodeContext_phase (s : State) : (decodeContext s).phase = s.phase := rfl
@[simp] theorem decodeContext_isaIndex (s : State) : (decodeContext s).isaIndex = s.chip.isaIndex := rfl
@[simp] theorem decodeContext_hostBase (s : State) : (decodeContext s).hostBase = s.chip.hostWin.base := rfl
@[simp] theorem decodeContext_localBase (s : State) : (decodeContext s).localBase = s.chip.localWin.base := rfl
@[simp] theorem decodeContext_params (s : State) : (decodeContext s).params = s.params := rfl

end Sys2Proof.Machine
end

