-- ==== Sys2Proof/Laws/Ops.lean ====
section
/-! SUPPORT. What each shared operation can do, said once: relocation, reset, construction, fetching and
the step. -/

namespace Sys2Proof.Machine

/-! Bytes. -/

theorem readIsa_writeIsa (s : State) (a v x : Byte) :
    readIsa (writeIsa s a v) x = if x = a then v else readIsa s x :=
  RegFile.read_write s.chip.isaRegisters a v x

/-- Right after a store of SMRAM_REG the block's SMRAM enable is bit 7 of the stored byte (R29). -/
theorem smramEnable_writeIsa (s : State) (v : Byte) :
    smramEnable s.params (writeIsa s s.params.smramReg v).chip.isaRegisters = v.getLsbD 7 := by
  change (readIsa (writeIsa s s.params.smramReg v) s.params.smramReg).getLsbD 7 = v.getLsbD 7
  rw [readIsa_writeIsa, if_pos rfl]

theorem readPci_writePci (s : State) (u w : PciUnit) (a v x : Byte) :
    readPci (writePci s u a v) w x = if w = u ∧ x = a then v else readPci s w x :=
  PciSpaces.read_write s.chip.pci u w a v x

theorem readWindowData_writeWindowData (s : State) (w : WindowId) (v : Byte) :
    readWindowData (writeWindowData s w v) w = v := by
  simp [readWindowData, writeWindowData]

/-- Replacing a window leaves the other one. -/
theorem window_withWindow_other (s : State) (w x : WindowId) (y : Window) (h : x ≠ w) :
    window (withWindow s w y) x = window s x := by
  cases w <;> cases x <;> first | rfl | exact absurd rfl h

/-! The window selector and bases. -/

/-- Only the mode-select byte steers the selector (R33). -/
theorem selector_writeIsa (s : State) (a v : Byte) (h : a ≠ Config.modeReg) :
    selector (writeIsa s a v) = selector s := by
  unfold selector
  rw [readIsa_writeIsa, if_neg (Ne.symm h)]

/-- The base a low-byte write gives: `{old[15:8], b}` (R202). -/
theorem newBase_lo_toNat (old : Port) (b : Byte) :
    (newBase old .lo b).toNat = old.toNat / 256 * 256 + b.toNat := by
  have hb := b.isLt
  have ho := old.isLt
  simp only [newBase, BitVec.toNat_append, BitVec.extractLsb'_toNat, Nat.shiftRight_eq_div_pow]
  rw [Nat.shiftLeft_eq, Nat.mul_comm, ← Nat.two_pow_add_eq_or_of_lt hb]
  omega

/-- The base a high-byte write gives: `{b, old[7:0]}` (R202). -/
theorem newBase_hi_toNat (old : Port) (b : Byte) :
    (newBase old .hi b).toNat = b.toNat * 256 + old.toNat % 256 := by
  have hb := b.isLt
  have ho := old.isLt
  have hm : old.toNat % 2 ^ 8 < 2 ^ 8 := Nat.mod_lt _ (by decide)
  simp only [newBase, BitVec.toNat_append, BitVec.extractLsb'_toNat, Nat.shiftRight_zero]
  rw [Nat.shiftLeft_eq, Nat.mul_comm, ← Nat.two_pow_add_eq_or_of_lt hm]
  omega

/-- Everything a relocation can do (R202). -/
theorem relocate_cases (s : State) (which : BaseByte) (b : Byte) :
    (selector s = none ∧ relocate s which b = .next s)
    ∨ ∃ w, selector s = some w
      ∧ ((0xFFFB < (newBase (window s w).base which b).toNat
            ∧ relocate s which b = .refused .windowWrap)
          ∨ ((newBase (window s w).base which b).toNat ≤ 0xFFFB
            ∧ relocate s which b = .next (moveWindow s w (newBase (window s w).base which b)))) := by
  have hmax : Config.maxBase.toNat = 0xFFFB := by decide
  unfold relocate
  cases hs : selector s with
  | none => exact .inl ⟨rfl, rfl⟩
  | some w =>
    refine .inr ⟨w, rfl, ?_⟩
    simp only [hmax]
    split
    · next h => exact .inl ⟨h, rfl⟩
    · next h => exact .inr ⟨Nat.le_of_not_lt h, rfl⟩

/-- The calls of a moved window follow the trace so far, unregister first (R203). -/
theorem moveWindow_trace (s : State) (w : WindowId) (new : Port) :
    (moveWindow s w new).trace = s.trace ++ relocateEffects w (window s w).base new := by
  cases w <;> rfl

@[simp] theorem moveWindow_window (s : State) (w : WindowId) (new : Port) :
    window (moveWindow s w new) w = { window s w with base := new } := by
  cases w <;> rfl

@[simp] theorem moveWindow_params (s : State) (w : WindowId) (new : Port) : (moveWindow s w new).params = s.params := by cases w <;> rfl
@[simp] theorem moveWindow_phase (s : State) (w : WindowId) (new : Port) : (moveWindow s w new).phase = s.phase := by cases w <;> rfl
@[simp] theorem moveWindow_region (s : State) (w : WindowId) (new : Port) : (moveWindow s w new).region = s.region := by cases w <;> rfl
@[simp] theorem moveWindow_smramVisible (s : State) (w : WindowId) (new : Port) : (moveWindow s w new).smramVisible = s.smramVisible := by cases w <;> rfl
@[simp] theorem moveWindow_shadowWriteAny (s : State) (w : WindowId) (new : Port) : (moveWindow s w new).shadowWriteAny = s.shadowWriteAny := by cases w <;> rfl
@[simp] theorem moveWindow_shadowReadAny (s : State) (w : WindowId) (new : Port) : (moveWindow s w new).shadowReadAny = s.shadowReadAny := by cases w <;> rfl
@[simp] theorem moveWindow_readData (s : State) (w : WindowId) (new : Port) : (moveWindow s w new).readData = s.readData := by cases w <;> rfl
@[simp] theorem moveWindow_input (s : State) (w : WindowId) (new : Port) : (moveWindow s w new).input = s.input := by cases w <;> rfl
@[simp] theorem moveWindow_draws (s : State) (w : WindowId) (new : Port) : (moveWindow s w new).draws = s.draws := by cases w <;> rfl
@[simp] theorem moveWindow_isaIndex (s : State) (w : WindowId) (new : Port) : (moveWindow s w new).chip.isaIndex = s.chip.isaIndex := by cases w <;> rfl
@[simp] theorem moveWindow_isaRegisters (s : State) (w : WindowId) (new : Port) : (moveWindow s w new).chip.isaRegisters = s.chip.isaRegisters := by cases w <;> rfl
@[simp] theorem moveWindow_pci (s : State) (w : WindowId) (new : Port) : (moveWindow s w new).chip.pci = s.chip.pci := by cases w <;> rfl

/-! Reset and construction. -/

/-- Everything a reset can do (R272). -/
theorem systemReset_cases (s : State) :
    (s.params.resetRecalc = true ∧ systemReset s = recalc (smramForward (clearRegisters s) false))
    ∨ (s.params.resetRecalc = false ∧ systemReset s = clearRegisters s) := by
  cases h : s.params.resetRecalc <;> simp [systemReset, h]

/-- Everything POWERON can do (R270, R255, R12). -/
theorem execPoweron_cases (s : State) :
    (s.params.wf = false ∧ execPoweron s = .refused .badParameters)
    ∨ (s.params.wf = true ∧ Config.constructionSucceeds s.draws = true
        ∧ execPoweron s = .next (construct (drawConstruction s)))
    ∨ (s.params.wf = true ∧ Config.constructionSucceeds s.draws = false
        ∧ execPoweron s = .next (constructionFailed (drawConstruction s))) := by
  unfold execPoweron
  cases s.params.wf <;> cases Config.constructionSucceeds s.draws <;> simp

/-! Fetching and the step. -/

/-- Everything a step can do: nothing where the queue is empty, a refusal by name, or the decoded
instruction on the state with the queue's head taken. -/
theorem step_cases (s : State) :
    (s.input = [] ∧ step s = .next s)
    ∨ (∃ w rest i, s.input = .word w :: rest ∧ decode (decodeContext s) w = .instr i
        ∧ step s = exec i (consume s))
    ∨ (∃ w rest, s.input = .word w :: rest ∧ decode (decodeContext s) w = .invalidWord
        ∧ step s = .refused .invalidWord)
    ∨ (∃ a rest, s.input = .wide a :: rest ∧ step s = .refused .wideAccess)
    ∨ (∃ image rest, s.input = .restore image :: rest ∧ step s = .refused .restore) := by
  cases h : s.input with
  | nil => exact .inl ⟨rfl, by simp [step, fetch, h]⟩
  | cons r rest =>
    cases r with
    | word w =>
      cases hd : decode (decodeContext s) w with
      | instr i => exact .inr (.inl ⟨w, rest, i, rfl, hd, by simp [step, fetch, h, hd]⟩)
      | invalidWord => exact .inr (.inr (.inl ⟨w, rest, rfl, hd, by simp [step, fetch, h, hd]⟩))
    | wide a => exact .inr (.inr (.inr (.inl ⟨a, rest, rfl, by simp [step, fetch, h]⟩)))
    | restore image => exact .inr (.inr (.inr (.inr ⟨image, rest, rfl, by simp [step, fetch, h]⟩)))

/-- A step that answers a next state either had nothing to deliver or ran a decoded instruction. -/
theorem step_next (s t : State) (h : step s = .next t) :
    (s.input = [] ∧ t = s)
    ∨ ∃ w rest i, s.input = .word w :: rest ∧ decode (decodeContext s) w = .instr i
        ∧ exec i (consume s) = .next t := by
  rcases step_cases s with ⟨h0, e⟩ | ⟨w, rest, i, h1, h2, e⟩ | ⟨w, rest, _, _, e⟩ | ⟨a, rest, _, e⟩ | ⟨m, rest, _, e⟩
  all_goals rw [e] at h
  · cases h
    exact .inl ⟨h0, rfl⟩
  · exact .inr ⟨w, rest, i, h1, h2, h⟩
  all_goals cases h

end Sys2Proof.Machine
end

