-- ==== Sys2Proof/Laws/PerInstr.lean ====
section
/-! SUPPORT. Statements made instruction by instruction: the encoder writes each row's fixed bits as
spec/opcode_table.json has them. -/

namespace Sys2Proof.Laws

/-- The match and the mask of an instruction's row in spec/opcode_table.json. -/
def rowPattern : Instr → Word × Word
  | .iorIsaIndex => (0x00002200, 0xFFFFFFFF)
  | .iowIsaIndex _ => (0x20002200, 0xFFFFFF00)
  | .iorIsaData => (0x00002300, 0xFFFFFFFF)
  | .iowIsaDataRo _ => (0x20002300, 0xFFFFFF00)
  | .iowIsaDataModesel _ => (0x20002300, 0xFFFFFF00)
  | .iowIsaDataBaselo _ => (0x20002300, 0xFFFFFF00)
  | .iowIsaDataBasehi _ => (0x20002300, 0xFFFFFF00)
  | .iowIsaDataShadow _ => (0x20002300, 0xFFFFFF00)
  | .iowIsaDataSmram _ => (0x20002300, 0xFFFFFF00)
  | .iowIsaDataMasked _ => (0x20002300, 0xFFFFFF00)
  | .iowIsaDataPlain _ => (0x20002300, 0xFFFFFF00)
  | .iorHostIndex _ => (0x00000000, 0xFF0000FF)
  | .iowHostIndex _ _ => (0x20000000, 0xFF000000)
  | .iorHostData _ => (0x00000000, 0xFF0000FF)
  | .iowHostData _ _ => (0x20000000, 0xFF000000)
  | .iorHostGap _ => (0x00000000, 0xFF0000FF)
  | .iowHostGap _ _ => (0x20000000, 0xFF000000)
  | .iorLocalIndex _ => (0x00000000, 0xFF0000FF)
  | .iowLocalIndex _ _ => (0x20000000, 0xFF000000)
  | .iorLocalData _ => (0x00000000, 0xFF0000FF)
  | .iowLocalData _ _ => (0x20000000, 0xFF000000)
  | .iorLocalGap _ => (0x00000000, 0xFF0000FF)
  | .iowLocalGap _ _ => (0x20000000, 0xFF000000)
  | .iorUnclaimed _ => (0x00000000, 0xFF0000FF)
  | .iowUnclaimed _ _ => (0x20000000, 0xFF000000)
  | .ioConflict _ => (0x00000000, 0xDF000000)
  | .cfgrFn0 _ _ => (0x40000000, 0xE0FF00FF)
  | .cfgrFnx _ _ _ => (0x40000000, 0xE01F00FF)
  | .cfgwFnx _ _ _ _ => (0x60000000, 0xE01F0000)
  | .cfgwRo _ _ _ => (0x60000000, 0xE0FF0000)
  | .cfgwCmd _ _ => (0x60000000, 0xE0FF0000)
  | .cfgwHbmask _ _ => (0x60000000, 0xE0FF0000)
  | .cfgwPlain _ _ _ => (0x60000000, 0xE0FF0000)
  | .cfgrUnclaimed _ _ _ => (0x40000000, 0xE01F00FF)
  | .cfgwUnclaimed _ _ _ _ => (0x60000000, 0xE01F0000)
  | .poweron => (0x80000000, 0xFFFFFFFF)
  | .reset => (0xA0000000, 0xFFFFFFFF)
  | .destroy => (0xC0000000, 0xFFFFFFFF)
  | .notLive _ => (0x00000000, 0x00000000)

/-! The fixed bits of the four transaction formats that have operands. -/

theorem ior_fixed (q : Port) : encodeTransaction (.ior q) &&& 0xFF0000FF = 0x00000000 := by
  apply BitVec.eq_of_getLsbD_eq
  intro i hi
  rw [BitVec.getLsbD_and, encodeTransaction]
  change (BitVec.getLsbD (w := 3 + 5 + 16 + 8) (0b000#3 ++ 0#5 ++ q ++ 0#8) i && _) = _
  simp only [BitVec.getLsbD_append]
  interval_cases i <;> simp

theorem iow_fixed (q : Port) (v : Byte) :
    encodeTransaction (.iow q v) &&& 0xFF000000 = 0x20000000 := by
  apply BitVec.eq_of_getLsbD_eq
  intro i hi
  rw [BitVec.getLsbD_and, encodeTransaction]
  change (BitVec.getLsbD (w := 3 + 5 + 16 + 8) (0b001#3 ++ 0#5 ++ q ++ v) i && _) = _
  simp only [BitVec.getLsbD_append]
  interval_cases i <;> simp

theorem cfgr_fixed (s : Slot) (fn : FnIndex) (a : Byte) :
    encodeTransaction (.cfgr s fn a) &&& 0xE01F00FF = 0x40000000 := by
  apply BitVec.eq_of_getLsbD_eq
  intro i hi
  rw [BitVec.getLsbD_and, encodeTransaction]
  change (BitVec.getLsbD (w := 3 + 5 + 3 + 5 + 8 + 8) (0b010#3 ++ s ++ fn ++ 0#5 ++ a ++ 0#8) i && _) = _
  simp only [BitVec.getLsbD_append]
  interval_cases i <;> simp

theorem cfgw_fixed (s : Slot) (fn : FnIndex) (a v : Byte) :
    encodeTransaction (.cfgw s fn a v) &&& 0xE01F0000 = 0x60000000 := by
  apply BitVec.eq_of_getLsbD_eq
  intro i hi
  rw [BitVec.getLsbD_and, encodeTransaction]
  change (BitVec.getLsbD (w := 3 + 5 + 3 + 5 + 8 + 8) (0b011#3 ++ s ++ fn ++ 0#5 ++ a ++ v) i && _) = _
  simp only [BitVec.getLsbD_append]
  interval_cases i <;> simp

/-- At function index 0 the function field is fixed too. -/
theorem cfgr_fn0_fixed (s : Slot) (a : Byte) :
    encodeTransaction (.cfgr s 0 a) &&& 0xE0FF00FF = 0x40000000 := by
  apply BitVec.eq_of_getLsbD_eq
  intro i hi
  rw [BitVec.getLsbD_and, encodeTransaction]
  change (BitVec.getLsbD (w := 3 + 5 + 3 + 5 + 8 + 8) (0b010#3 ++ s ++ (0 : FnIndex) ++ 0#5 ++ a ++ 0#8) i && _) = _
  simp only [BitVec.getLsbD_append]
  interval_cases i <;> simp

theorem cfgw_fn0_fixed (s : Slot) (a v : Byte) :
    encodeTransaction (.cfgw s 0 a v) &&& 0xE0FF0000 = 0x60000000 := by
  apply BitVec.eq_of_getLsbD_eq
  intro i hi
  rw [BitVec.getLsbD_and, encodeTransaction]
  change (BitVec.getLsbD (w := 3 + 5 + 3 + 5 + 8 + 8) (0b011#3 ++ s ++ (0 : FnIndex) ++ 0#5 ++ a ++ v) i && _) = _
  simp only [BitVec.getLsbD_append]
  interval_cases i <;> simp

/-- A primary port's fixed bits: all but the data. -/
theorem iow_primary_fixed (q : Port) (v : Byte) :
    encodeTransaction (.iow q v) &&& 0xFFFFFF00 = encodeTransaction (.iow q 0) := by
  apply BitVec.eq_of_getLsbD_eq
  intro i hi
  rw [BitVec.getLsbD_and, encodeTransaction]
  change (BitVec.getLsbD (w := 3 + 5 + 16 + 8) (0b001#3 ++ 0#5 ++ q ++ v) i && _)
    = BitVec.getLsbD (w := 3 + 5 + 16 + 8) (0b001#3 ++ 0#5 ++ q ++ (0 : Byte)) i
  simp only [BitVec.getLsbD_append]
  interval_cases i <;> simp

/-- A conflicting access is a read or a write: only bit 29 tells which. -/
theorem conflict_fixed (x : IoAccess) :
    encodeTransaction (conflictTransaction x) &&& 0xDF000000 = 0 := by
  cases x with
  | read q =>
    apply BitVec.eq_of_getLsbD_eq
    intro i hi
    rw [BitVec.getLsbD_and, conflictTransaction, encodeTransaction]
    change (BitVec.getLsbD (w := 3 + 5 + 16 + 8) (0b000#3 ++ 0#5 ++ q ++ 0#8) i && _) = _
    simp only [BitVec.getLsbD_append]
    interval_cases i <;> simp
  | write q v =>
    apply BitVec.eq_of_getLsbD_eq
    intro i hi
    rw [BitVec.getLsbD_and, conflictTransaction, encodeTransaction]
    change (BitVec.getLsbD (w := 3 + 5 + 16 + 8) (0b001#3 ++ 0#5 ++ q ++ v) i && _) = _
    simp only [BitVec.getLsbD_append]
    interval_cases i <;> simp

namespace EncodesRow

/-- The word of the instruction has its row's fixed bits, whatever the parameters. -/
def Statement (i : Instr) : Prop :=
  ∀ p : Params, encode p i &&& (rowPattern i).2 = (rowPattern i).1

theorem iorIsaIndex : Statement .iorIsaIndex := fun _ => by
  change encodeTransaction (.ior Config.isaIndexPort) &&& 0xFFFFFFFF = 0x00002200
  decide
theorem iowIsaIndex (v : Byte) : Statement (.iowIsaIndex v) := fun _ => iow_primary_fixed _ v
theorem iorIsaData : Statement .iorIsaData := fun _ => by
  change encodeTransaction (.ior Config.isaDataPort) &&& 0xFFFFFFFF = 0x00002300
  decide
theorem iowIsaDataRo (v : Byte) : Statement (.iowIsaDataRo v) := fun _ => iow_primary_fixed _ v
theorem iowIsaDataModesel (v : Byte) : Statement (.iowIsaDataModesel v) := fun _ => iow_primary_fixed _ v
theorem iowIsaDataBaselo (v : Byte) : Statement (.iowIsaDataBaselo v) := fun _ => iow_primary_fixed _ v
theorem iowIsaDataBasehi (v : Byte) : Statement (.iowIsaDataBasehi v) := fun _ => iow_primary_fixed _ v
theorem iowIsaDataShadow (v : Byte) : Statement (.iowIsaDataShadow v) := fun _ => iow_primary_fixed _ v
theorem iowIsaDataSmram (v : Byte) : Statement (.iowIsaDataSmram v) := fun _ => iow_primary_fixed _ v
theorem iowIsaDataMasked (v : Byte) : Statement (.iowIsaDataMasked v) := fun _ => iow_primary_fixed _ v
theorem iowIsaDataPlain (v : Byte) : Statement (.iowIsaDataPlain v) := fun _ => iow_primary_fixed _ v
theorem iorHostIndex (q : Port) : Statement (.iorHostIndex q) := fun _ => ior_fixed q
theorem iowHostIndex (q : Port) (v : Byte) : Statement (.iowHostIndex q v) := fun _ => iow_fixed q v
theorem iorHostData (q : Port) : Statement (.iorHostData q) := fun _ => ior_fixed q
theorem iowHostData (q : Port) (v : Byte) : Statement (.iowHostData q v) := fun _ => iow_fixed q v
theorem iorHostGap (q : Port) : Statement (.iorHostGap q) := fun _ => ior_fixed q
theorem iowHostGap (q : Port) (v : Byte) : Statement (.iowHostGap q v) := fun _ => iow_fixed q v
theorem iorLocalIndex (q : Port) : Statement (.iorLocalIndex q) := fun _ => ior_fixed q
theorem iowLocalIndex (q : Port) (v : Byte) : Statement (.iowLocalIndex q v) := fun _ => iow_fixed q v
theorem iorLocalData (q : Port) : Statement (.iorLocalData q) := fun _ => ior_fixed q
theorem iowLocalData (q : Port) (v : Byte) : Statement (.iowLocalData q v) := fun _ => iow_fixed q v
theorem iorLocalGap (q : Port) : Statement (.iorLocalGap q) := fun _ => ior_fixed q
theorem iowLocalGap (q : Port) (v : Byte) : Statement (.iowLocalGap q v) := fun _ => iow_fixed q v
theorem iorUnclaimed (q : Port) : Statement (.iorUnclaimed q) := fun _ => ior_fixed q
theorem iowUnclaimed (q : Port) (v : Byte) : Statement (.iowUnclaimed q v) := fun _ => iow_fixed q v
theorem ioConflict (access : IoAccess) : Statement (.ioConflict access) := fun _ => conflict_fixed access
theorem cfgrFn0 (u : PciUnit) (a : Byte) : Statement (.cfgrFn0 u a) := fun p => cfgr_fn0_fixed (Machine.slotOf p u) a
theorem cfgrFnx (u : PciUnit) (fn : FnIndex) (a : Byte) : Statement (.cfgrFnx u fn a) := fun p => cfgr_fixed (Machine.slotOf p u) fn a
theorem cfgwFnx (u : PciUnit) (fn : FnIndex) (a v : Byte) : Statement (.cfgwFnx u fn a v) := fun p => cfgw_fixed (Machine.slotOf p u) fn a v
theorem cfgwRo (u : PciUnit) (a v : Byte) : Statement (.cfgwRo u a v) := fun p => cfgw_fn0_fixed (Machine.slotOf p u) a v
theorem cfgwCmd (u : PciUnit) (v : Byte) : Statement (.cfgwCmd u v) := fun p => cfgw_fn0_fixed (Machine.slotOf p u) _ v
theorem cfgwHbmask (a v : Byte) : Statement (.cfgwHbmask a v) := fun p => cfgw_fn0_fixed (Machine.slotOf p .hb) a v
theorem cfgwPlain (u : PciUnit) (a v : Byte) : Statement (.cfgwPlain u a v) := fun p => cfgw_fn0_fixed (Machine.slotOf p u) a v
theorem cfgrUnclaimed (s : Slot) (fn : FnIndex) (a : Byte) : Statement (.cfgrUnclaimed s fn a) := fun _ => cfgr_fixed s fn a
theorem cfgwUnclaimed (s : Slot) (fn : FnIndex) (a v : Byte) : Statement (.cfgwUnclaimed s fn a v) := fun _ => cfgw_fixed s fn a v
theorem poweron : Statement .poweron := fun _ => by
  change encodeTransaction .poweron &&& 0xFFFFFFFF = 0x80000000
  decide
theorem reset : Statement .reset := fun _ => by
  change encodeTransaction .reset &&& 0xFFFFFFFF = 0xA0000000
  decide
theorem destroy : Statement .destroy := fun _ => by
  change encodeTransaction .destroy &&& 0xFFFFFFFF = 0xC0000000
  decide
theorem notLive (t : Transaction) : Statement (.notLive t) := fun _ => BitVec.and_zero

end EncodesRow

end Sys2Proof.Laws
end

