-- ==== Sys2Proof/Laws/Regions.lean ====
section
/-! SUPPORT. The region table, and what each group of collaborator calls does to the tables replayed from
the trace. -/

namespace Sys2Proof.Machine

/-- The state of a table row's region after a recalculation (R183, R184). -/
theorem regionStates_row (b : ShadowBytes) (r : RegionRow) (h : r ∈ regionRows) :
    (regionStates b)[r.k] = .applied (readMode b r) (writeMode b r) := by
  simp only [regionRows, List.mem_cons, List.not_mem_nil, or_false] at h
  rcases h with rfl | rfl | rfl | rfl | rfl | rfl | rfl | rfl | rfl | rfl | rfl | rfl | rfl <;> rfl

/-- Before any recalculation every region is unknown (R28). -/
theorem unknownRegions_get (k : Fin 13) : unknownRegions[k] = .unknown := by
  simp [unknownRegions]

/-- No shadow bit set: no region has WE or RE active (R185). -/
theorem flags_zero : shadowWriteFlag zeroShadow = false ∧ shadowReadFlag zeroShadow = false := by
  decide

/-- A reset clears the four shadow-control bytes (R272). -/
theorem shadowBytes_reset : shadowBytes resetRegisters = zeroShadow := by
  decide

/-! Replaying the trace. -/

theorem portTable_append (tr es : List Effect) :
    portTable (tr ++ es) = es.foldl portTableStep (portTable tr) := by
  simp [portTable]

theorem pciTable_append (tr es : List Effect) :
    pciTable (tr ++ es) = es.foldl pciTableStep (pciTable tr) := by
  simp [pciTable]

theorem lastRegion_append (base : PhysAddr) (tr es : List Effect) :
    lastRegion base (tr ++ es) = es.foldl (regionStep base) (lastRegion base tr) := by
  simp [lastRegion]

theorem lastSmram_append (tr es : List Effect) :
    lastSmram (tr ++ es) = es.foldl smramStep (lastSmram tr) := by
  simp [lastSmram]

/-- A recalculation registers nothing with the port dispatcher. -/
theorem foldl_recalc_portTable (b : ShadowBytes) (t : List PortRange) :
    (recalcEffects b).foldl portTableStep t = t := rfl

/-- A recalculation registers nothing with the PCI bus manager. -/
theorem foldl_recalc_pciTable (b : ShadowBytes) (t : List (Slot × PciUnit)) :
    (recalcEffects b).foldl pciTableStep t = t := rfl

/-- A recalculation forwards no SMRAM visibility (R190). -/
theorem foldl_recalc_smram (b : ShadowBytes) (m : SmramStatus) :
    (recalcEffects b).foldl smramStep m = m := rfl

/-- After a recalculation the address-space manager holds, for each region of the table, the state of
that row: each base is called for exactly once (R184, R186). -/
theorem foldl_recalc_region (b : ShadowBytes) (r : RegionRow) (h : r ∈ regionRows) (m : RegionStatus) :
    (recalcEffects b).foldl (regionStep r.base) m = .applied (readMode b r) (writeMode b r) := by
  simp only [regionRows, List.mem_cons, List.not_mem_nil, or_false] at h
  rcases h with rfl | rfl | rfl | rfl | rfl | rfl | rfl | rfl | rfl | rfl | rfl | rfl | rfl <;>
    simp [recalcEffects, regionRows, regionEffect, regionStep]

end Sys2Proof.Machine
end

