-- ==== Sys2Proof/Tests/Slice0.lean ====
section
/-! SUPPORT. Tests. The expected values come from spec/95_test_vectors.md (a vector's id stands beside
its test) or from the rule named; the parameters are the test parameters TP of its section 0. -/

namespace Sys2Proof.Tests

open Machine

/-! Helpers. -/

/-- The block of TP right after a successful power-on. -/
def built (p : Params) : State := construct (State.absent p)

/-- S0 of 95_test_vectors.md, on the given parameters. -/
def s0 (p : Params) : State := systemReset (built p)

/-- S0 of TP with a primary register selected and mode-select byte `m`. -/
def selected (m a : Byte) : State := writeIsaIndex (writeIsa (s0 Params.test) 0x10 m) a

/-- TP's block with window `w` mapped at `b` and selected by the mode byte, register `a` selected. -/
def mapped (w : WindowId) (b : Port) (a : Byte) : State :=
  moveWindow (selected (modeOf w) a) w b

/-- W1 and W5 of 95_test_vectors.md, section 2.5, together. -/
def twoWindows : State := moveWindow (mapped .hostBus 0x0200 0) .localBus 0x0300

/-- The state after one word, where the step has one. -/
def after (s : State) (w : Word) : Option State :=
  match step (deliver s w) with
  | .next t => some t
  | .fault _ => none
  | .refused _ => none

/-- Why a word is refused, where it is. -/
def refusal (s : State) (w : Word) : Option Refusal :=
  match step (deliver s w) with
  | .next _ => none
  | .fault _ => none
  | .refused r => some r

/-- What one word reads. -/
def reads (s : State) (w : Word) : Option (List ReadResult) :=
  (after s w).map (fun t => t.readData.drop s.readData.length)

/-- The calls one word makes. -/
def calls (s : State) (w : Word) : Option (List Effect) :=
  (after s w).map (fun t => t.trace.drop s.trace.length)

/-- Primary register `a` after one word. -/
def isaAfter (s : State) (w : Word) (a : Byte) : Option Byte :=
  (after s w).map (fun t => readIsa t a)

/-- PCI byte `a` of unit `u` after one word. -/
def pciAfter (s : State) (w : Word) (u : PciUnit) (a : Byte) : Option Byte :=
  (after s w).map (fun t => readPci t u a)

/-- The call for a region that is all passthrough. -/
def pp (b : PhysAddr) : Effect := .regionSet b 0x4000 .readPassthrough .writePassthrough

/-! Well-formedness: for each check an ill-formed term it refuses. -/

theorem test_wf_host_index : Instr.wellFormed Params.test (.iorHostIndex 0x22) = false := by decide
theorem test_wf_host_index_disabled : Instr.wellFormed Params.test (.iowHostIndex 0 1) = false := by
  decide
theorem test_wf_host_index_write : Instr.wellFormed Params.test (.iowHostIndex 0x23 1) = false := by
  decide
theorem test_wf_host_data : Instr.wellFormed Params.test (.iorHostData 4) = false := by decide
theorem test_wf_host_data_write : Instr.wellFormed Params.test (.iowHostData 0x22 1) = false := by decide
theorem test_wf_host_gap : Instr.wellFormed Params.test (.iorHostGap 1) = false := by decide
theorem test_wf_host_gap_write : Instr.wellFormed Params.test (.iowHostGap 0x23 1) = false := by decide
theorem test_wf_local_index : Instr.wellFormed Params.test (.iorLocalIndex 0) = false := by decide
theorem test_wf_local_index_write : Instr.wellFormed Params.test (.iowLocalIndex 0x22 1) = false := by
  decide
theorem test_wf_local_data : Instr.wellFormed Params.test (.iorLocalData 0x23) = false := by decide
theorem test_wf_local_data_write : Instr.wellFormed Params.test (.iowLocalData 4 1) = false := by decide
theorem test_wf_local_gap : Instr.wellFormed Params.test (.iorLocalGap 0x22) = false := by decide
theorem test_wf_local_gap_write : Instr.wellFormed Params.test (.iowLocalGap 1 1) = false := by decide
theorem test_wf_unclaimed : Instr.wellFormed Params.test (.iorUnclaimed 0x22) = false := by decide
theorem test_wf_unclaimed_write : Instr.wellFormed Params.test (.iowUnclaimed 0x23 1) = false := by decide
theorem test_wf_read_fn : Instr.wellFormed Params.test (.cfgrFnx .hb 0 0) = false := by decide
theorem test_wf_write_fn : Instr.wellFormed Params.test (.cfgwFnx .hb 0 0 0) = false := by decide
theorem test_wf_ro : Instr.wellFormed Params.test (.cfgwRo .br 0x50 0) = false := by decide
theorem test_wf_hbmask : Instr.wellFormed Params.test (.cfgwHbmask 0x54 0) = false := by decide
theorem test_wf_plain : Instr.wellFormed Params.test (.cfgwPlain .hb 0x52 0) = false := by decide
theorem test_wf_slot : Instr.wellFormed Params.test (.cfgrUnclaimed 2 0 0) = false := by decide
theorem test_wf_slot_write : Instr.wellFormed Params.test (.cfgwUnclaimed 1 0 0 0) = false := by decide

/-! R12: a parameter set that breaks one clause. -/

theorem test_params_wf : Params.test.wf = true := by decide
theorem test_params_slots : { Params.test with slotSt := 0 }.wf = false := by decide
theorem test_params_addresses : { Params.test with hbRoExtra1 := 0x52 }.wf = false := by decide
theorem test_params_ro_base : { Params.test with hbRoExtra0 := 0x0E }.wf = false := by decide
theorem test_params_command :
    { Params.test with hbMasked0 := { addr := 0x04, mask := 1 } }.wf = false := by decide
theorem test_params_isa_ro : { Params.test with isaRo := [0x40, 0x25] }.wf = false := by decide

/-! Decode: for each row a word of spec/95_test_vectors.md, or one written from the format of R92 to R94.
Each test says that the word decodes to the row, that the encoder writes that word, that the row's
condition holds and that its operands are ones the row allows. -/

/-- Word `w` is row `i` where it stands. -/
def isRow (c : DecodeContext) (w : Word) (i : Instr) : Bool :=
  decide (decode c w = .instr i) && decide (encode c.params i = w) && rowCondition c i
    && i.wellFormed c.params

/-- A live block of TP: the index, the two bases. -/
def live (a : Byte) (h l : Port) : DecodeContext where
  phase := .live
  isaIndex := a
  hostBase := h
  localBase := l
  params := Params.test

theorem test_decode_iorIsaIndex : isRow (live 0 0 0) 0x00002200 .iorIsaIndex = true := by decide
theorem test_decode_iowIsaIndex : isRow (live 0 0 0) 0x20002236 (.iowIsaIndex 0x36) = true := by decide
theorem test_decode_iorIsaData : isRow (live 0 0 0) 0x00002300 .iorIsaData = true := by decide
theorem test_decode_iowIsaDataRo :
    isRow { live 0x40 0 0 with params := { Params.test with isaRo := [0x40] } } 0x200023FF
      (.iowIsaDataRo 0xFF) = true := by decide
theorem test_decode_iowIsaDataModesel :
    isRow (live 0x10 0 0) 0x20002307 (.iowIsaDataModesel 0x07) = true := by decide
theorem test_decode_iowIsaDataBaselo :
    isRow (live 0x12 0 0) 0x20002340 (.iowIsaDataBaselo 0x40) = true := by decide
theorem test_decode_iowIsaDataBasehi :
    isRow (live 0x13 0 0) 0x20002302 (.iowIsaDataBasehi 0x02) = true := by decide
theorem test_decode_iowIsaDataShadow :
    isRow (live 0x25 0 0) 0x20002305 (.iowIsaDataShadow 0x05) = true
    ∧ isRow (live 0x27 0 0) 0x20002320 (.iowIsaDataShadow 0x20) = true := by decide
theorem test_decode_iowIsaDataSmram :
    isRow (live 0x28 0 0) 0x20002383 (.iowIsaDataSmram 0x83) = true := by decide
/-- SMRAM_REG at another shadow-control register (log 21): it is the SMRAM row, 0x28 the shadow row. -/
theorem test_decode_smramReg_parameter :
    isRow { live 0x27 0 0 with params := { Params.test with smramReg := 0x27 } } 0x20002380
      (.iowIsaDataSmram 0x80) = true
    ∧ isRow { live 0x28 0 0 with params := { Params.test with smramReg := 0x27 } } 0x20002301
      (.iowIsaDataShadow 0x01) = true := by decide
theorem test_decode_iowIsaDataMasked :
    isRow (live 0x21 0 0) 0x200023FE (.iowIsaDataMasked 0xFE) = true
    ∧ isRow (live 0x36 0 0) 0x200023C0 (.iowIsaDataMasked 0xC0) = true := by decide
theorem test_decode_iowIsaDataPlain :
    isRow (live 0x24 0 0) 0x200023FF (.iowIsaDataPlain 0xFF) = true
    ∧ isRow (live 0x7B 0 0) 0x20002300 (.iowIsaDataPlain 0x00) = true := by decide
theorem test_decode_iorHostIndex :
    isRow (live 0 0x0200 0) 0x00020000 (.iorHostIndex 0x0200) = true := by decide
theorem test_decode_iowHostIndex :
    isRow (live 0 0x0200 0) 0x20020080 (.iowHostIndex 0x0200 0x80) = true := by decide
theorem test_decode_iorHostData :
    isRow (live 0 0x0200 0) 0x00020400 (.iorHostData 0x0204) = true := by decide
theorem test_decode_iowHostData :
    isRow (live 0 0xFFFB 0) 0x20FFFF5A (.iowHostData 0xFFFF 0x5A) = true := by decide
theorem test_decode_iorHostGap :
    isRow (live 0 0x0200 0) 0x00020100 (.iorHostGap 0x0201) = true
    ∧ isRow (live 0 0x0200 0) 0x00020300 (.iorHostGap 0x0203) = true := by decide
theorem test_decode_iowHostGap :
    isRow (live 0 0x0200 0) 0x20020233 (.iowHostGap 0x0202 0x33) = true := by decide
theorem test_decode_iorLocalIndex :
    isRow (live 0 0 0x0300) 0x00030000 (.iorLocalIndex 0x0300) = true := by decide
theorem test_decode_iowLocalIndex :
    isRow (live 0 0 0x0300) 0x20030001 (.iowLocalIndex 0x0300 0x01) = true := by decide
theorem test_decode_iorLocalData :
    isRow (live 0 0x0200 0x0300) 0x00030400 (.iorLocalData 0x0304) = true := by decide
theorem test_decode_iowLocalData :
    isRow (live 0 0 0x0300) 0x200304C3 (.iowLocalData 0x0304 0xC3) = true := by decide
theorem test_decode_iorLocalGap :
    isRow (live 0 0 0x0300) 0x00030300 (.iorLocalGap 0x0303) = true := by decide
theorem test_decode_iowLocalGap :
    isRow (live 0 0 0x0300) 0x20030200 (.iowLocalGap 0x0302 0) = true := by decide
theorem test_decode_iorUnclaimed :
    isRow (live 0 0 0) 0x00002400 (.iorUnclaimed 0x24) = true
    ∧ isRow (live 0 0x0200 0) 0x00020500 (.iorUnclaimed 0x0205) = true
    ∧ isRow (live 0 0 0) 0x00000400 (.iorUnclaimed 0x0004) = true := by decide
theorem test_decode_iowUnclaimed :
    isRow (live 0 0 0) 0x20002401 (.iowUnclaimed 0x24 0x01) = true := by decide
theorem test_decode_ioConflict :
    isRow (live 0 0x0020 0) 0x20002200 (.ioConflict (.write 0x22 0)) = true
    ∧ isRow (live 0 0x0200 0x0204) 0x00020400 (.ioConflict (.read 0x0204)) = true := by decide
theorem test_decode_cfgrFn0 : isRow (live 0 0 0) 0x41005000 (.cfgrFn0 .br 0x50) = true := by decide
theorem test_decode_cfgrFnx :
    isRow (live 0 0 0) 0x40200000 (.cfgrFnx .hb 1 0) = true
    ∧ isRow (live 0 0 0) 0x42E0FF00 (.cfgrFnx .st 7 0xFF) = true := by decide
theorem test_decode_cfgwFnx :
    isRow (live 0 0 0) 0x61604055 (.cfgwFnx .br 3 0x40 0x55) = true := by decide
theorem test_decode_cfgwRo :
    isRow (live 0 0 0) 0x620005FF (.cfgwRo .st 0x05 0xFF) = true
    ∧ isRow (live 0 0 0) 0x600050AA (.cfgwRo .hb 0x50 0xAA) = true := by decide
theorem test_decode_cfgwCmd : isRow (live 0 0 0) 0x62000406 (.cfgwCmd .st 0x06) = true := by decide
theorem test_decode_cfgwHbmask :
    isRow (live 0 0 0) 0x600053FF (.cfgwHbmask 0x53 0xFF) = true := by decide
theorem test_decode_cfgwPlain :
    isRow (live 0 0 0) 0x610052FF (.cfgwPlain .br 0x52 0xFF) = true := by decide
theorem test_decode_cfgrUnclaimed :
    isRow (live 0 0 0) 0x45000000 (.cfgrUnclaimed 5 0 0) = true
    ∧ isRow (live 0 0 0) 0x5FE00000 (.cfgrUnclaimed 31 7 0) = true := by decide
theorem test_decode_cfgwUnclaimed :
    isRow (live 0 0 0) 0x650004FF (.cfgwUnclaimed 5 0 0x04 0xFF) = true := by decide
theorem test_decode_poweron :
    isRow { live 0 0 0 with phase := .absent } 0x80000000 .poweron = true := by decide
theorem test_decode_reset : isRow (live 0 0 0) 0xA0000000 .reset = true := by decide
theorem test_decode_destroy : isRow (live 0 0 0) 0xC0000000 .destroy = true := by decide
theorem test_decode_notLive :
    isRow (live 0 0 0) 0x80000000 (.notLive .poweron) = true
    ∧ isRow { live 0 0 0 with phase := .destroyed } 0x40000000 (.notLive (.cfgr 0 0 0)) = true := by
  decide

/-- I1 to I7: the invalid words, in the phase each is given. -/
theorem test_decode_invalid :
    ([0xE0000000, 0x01002200, 0x00002301, 0x40010000, 0x40000001] : List Word).all
      (fun w => decide (decode (live 0 0 0) w = .invalidWord)) = true
    ∧ decode { live 0 0 0 with phase := .absent } 0x80000001 = .invalidWord
    ∧ decode { live 0 0 0 with phase := .destroyed } 0xE0000000 = .invalidWord := by decide

/-! The primary window. -/

/-- X1. -/
theorem test_iorIsaIndex : reads (selected 0 0x36) 0x00002200 = some [.byte 0x36] := by decide
/-- X2: the index is not masked. -/
theorem test_iowIsaIndex : (after (s0 Params.test) 0x200022FF).map (·.chip.isaIndex) = some 0xFF := by
  decide
/-- X3, X4. -/
theorem test_iorIsaData :
    reads (selected 0 0x7B) 0x00002300 = some [.byte 0xFF]
    ∧ reads (selected 0 0x00) 0x00002300 = some [.byte 0x00] := by decide
/-- X6. -/
theorem test_iorIsaData_before_reset :
    reads (writeIsaIndex (built Params.test) 0x7B) 0x00002300 = some [.byte 0x00] := by decide
/-- M12. -/
theorem test_iowIsaDataRo :
    isaAfter (writeIsaIndex (writeIsa (s0 { Params.test with isaRo := [0x40] }) 0x40 0x12) 0x40)
      0x200023FF 0x40 = some 0x12 := by decide
/-- M10 and R158. -/
theorem test_iowIsaDataModesel :
    (after (selected 0 0x10) 0x200023FF).map (fun t => (readIsa t 0x10, selector t)) = some (0xFF, none)
    ∧ (after (selected 0 0x10) 0x20002307).map selector = some (some .hostBus) := by decide
/-- W2. -/
theorem test_iowIsaDataBaselo :
    calls (mapped .hostBus 0x0200 0x12) 0x20002340
        = some [.portUnreg 0x0200 5 .hostBus, .portReg 0x0240 5 .hostBus]
    ∧ (after (mapped .hostBus 0x0200 0x12) 0x20002340).map (·.chip.hostWin.base) = some 0x0240 := by
  decide
/-- W8, W9: the last base that fits, and the first that does not. -/
theorem test_iowIsaDataBaselo_wrap :
    (after (mapped .hostBus 0xFF00 0x12) 0x200023FB).map (·.chip.hostWin.base) = some 0xFFFB
    ∧ refusal (mapped .hostBus 0xFFFB 0x12) 0x200023FC = some .windowWrap := by decide
/-- W5 (the high byte), W4. -/
theorem test_iowIsaDataBasehi :
    (after (selected 0x06 0x13) 0x20002303).map (fun t => (t.chip.localWin.base, t.chip.hostWin.base))
        = some (0x0300, 0)
    ∧ calls (selected 0x08 0x13) 0x20002302 = some [] := by decide
/-- W6, W7: disabling, and a base written again. -/
theorem test_iowIsaDataBasehi_again :
    calls (mapped .hostBus 0x0200 0x13) 0x20002300 = some [.portUnreg 0x0200 5 .hostBus]
    ∧ calls (mapped .hostBus 0x0200 0x13) 0x20002302
        = some [.portUnreg 0x0200 5 .hostBus, .portReg 0x0200 5 .hostBus] := by decide
/-- E2: every call of the write of 0x05 to register 0x25. -/
theorem test_iowIsaDataShadow :
    calls (selected 0 0x25) 0x20002305
      = some [.regionSet 0xC0000 0x4000 .readPassthrough .writeInternal,
          .regionSet 0xC4000 0x4000 .readPassthrough .writeInternal,
          pp 0xC8000, pp 0xCC000, pp 0xD0000, pp 0xD4000, pp 0xD8000, pp 0xDC000,
          pp 0xE0000, pp 0xE4000, pp 0xE8000, pp 0xEC000,
          .regionSet 0xF0000 0x10000 .readPassthrough .writePassthrough, .invalidate] := by decide
/-- S9: region 10 alone, and both flags. -/
theorem test_iowIsaDataShadow_e :
    (after (selected 0 0x27) 0x20002320).map
        (fun t => (t.region[10], t.region[11], t.shadowWriteAny, t.shadowReadAny))
      = some (.applied .readInternal .writePassthrough, .applied .readPassthrough .writePassthrough,
          false, true) := by decide
/-- M11, F2: the mask, the forward before the first region call, region 12. -/
theorem test_iowIsaDataSmram :
    isaAfter (selected 0 0x28) 0x200023FF 0x28 = some 0x83
    ∧ (calls (selected 0 0x28) 0x20002383).map (fun l => (l.take 2, l.drop 13))
        = some ([.smramSet 0 0 0 true, pp 0xC0000],
            [.regionSet 0xF0000 0x10000 .readInternal .writeInternal, .invalidate]) := by decide
/-- S12. -/
theorem test_iowIsaDataSmram_reserved :
    (after (selected 0 0x28) 0x2000237C).map
        (fun t => (readIsa t 0x28, t.smramVisible, t.shadowWriteAny, t.shadowReadAny))
      = some (0x00, .forwarded false, false, false) := by decide
/-- M1, M3, M5, M7. -/
theorem test_iowIsaDataMasked :
    isaAfter (selected 0 0x21) 0x200023FF 0x21 = some 0xFE
    ∧ isaAfter (selected 0 0x22) 0x200023FF 0x22 = some 0x7F
    ∧ isaAfter (selected 0 0x29) 0x200023FF 0x29 = some 0x0F
    ∧ isaAfter (selected 0 0x36) 0x200023FF 0x36 = some 0x3F := by decide
/-- M9, S14. -/
theorem test_iowIsaDataPlain :
    isaAfter (selected 0 0x40) 0x200023A5 0x40 = some 0xA5
    ∧ calls (selected 0 0x24) 0x200023FF = some [] := by decide

/-! The host-bus and local-bus windows. -/

/-- H1. -/
theorem test_iorHostIndex :
    reads (writeWindowIndex twoWindows .hostBus 0x80) 0x00020000 = some [.byte 0x80] := by decide
/-- H1. -/
theorem test_iowHostIndex :
    (after twoWindows 0x20020080).map (fun t => (t.chip.hostWin.index, t.chip.localWin.index))
      = some (0x80, 0) := by decide
/-- H2. -/
theorem test_iorHostData :
    reads (writeWindowData (writeWindowIndex twoWindows .hostBus 0x80) .hostBus 0x5A) 0x00020400
      = some [.byte 0x5A] := by decide
/-- H2. -/
theorem test_iowHostData :
    (after (writeWindowIndex twoWindows .hostBus 0x80) 0x2002045A).map
        (fun t => (RegFile.read t.chip.hostWin.reg 0x80, RegFile.read t.chip.localWin.reg 0x80,
          readIsa t 0x80))
      = some (0x5A, 0, 0) := by decide
/-- H3. -/
theorem test_iorHostGap : reads twoWindows 0x00020100 = some [.byte 0xFF] := by decide
/-- H4. -/
theorem test_iowHostGap :
    (after twoWindows 0x20020233).map
        (fun t => (t.chip.hostWin.index, readWindowData t .hostBus, readIsa t 0))
      = some (0, 0, 0) := by decide
/-- R131's example. -/
theorem test_iorLocalIndex :
    reads (writeWindowIndex twoWindows .localBus 0x01) 0x00030000 = some [.byte 0x01] := by decide
/-- R132's example. -/
theorem test_iowLocalIndex :
    (after twoWindows 0x20030001).map (fun t => (t.chip.localWin.index, t.chip.hostWin.index))
      = some (0x01, 0) := by decide
/-- H8. -/
theorem test_iorLocalData :
    reads (writeWindowData (writeWindowIndex twoWindows .localBus 0x01) .localBus 0xC3) 0x00030400
      = some [.byte 0xC3] := by decide
/-- H8. -/
theorem test_iowLocalData :
    (after (writeWindowIndex twoWindows .localBus 0x01) 0x200304C3).map
        (fun t => (RegFile.read t.chip.localWin.reg 0x01, RegFile.read t.chip.hostWin.reg 0x01))
      = some (0xC3, 0) := by decide
/-- H9. -/
theorem test_iorLocalGap : reads twoWindows 0x00030300 = some [.byte 0xFF] := by decide
/-- R136's example. -/
theorem test_iowLocalGap :
    (after (writeWindowIndex twoWindows .localBus 0x01) 0x20030200).map
        (fun t => (t.chip.localWin.index, readWindowData t .localBus)) = some (0x01, 0) := by decide

/-! Unclaimed ports and conflicts. -/

/-- X8, H5. -/
theorem test_iorUnclaimed :
    reads (s0 Params.test) 0x00002400 = some [.noResponse]
    ∧ reads twoWindows 0x00020500 = some [.noResponse] := by decide
/-- X9. -/
theorem test_iowUnclaimed :
    (after (s0 Params.test) 0x20002401).map
        (fun t => (t.chip.isaIndex, readIsa t 0, t.chip.hostWin.base)) = some (0, 0, 0) := by decide
/-- W14, W15: the ports a host window at 0x0020 covers. -/
theorem test_ioConflict :
    refusal (mapped .hostBus 0x0020 0) 0x20002200 = some .portConflict
    ∧ refusal (mapped .hostBus 0x0020 0) 0x00002300 = some .portConflict
    ∧ reads (mapped .hostBus 0x0020 0) 0x00002400 = some [.byte 0x00] := by decide

/-! The PCI units. -/

/-- TP with an identity byte to be seen. -/
def withId : Params :=
  { Params.test with
    variant := .rev1
    ids1 := { (default : UnitIds) with hb := { (default : IdBytes) with b00 := 0x39, b0E := 0x80 } } }

/-- P1, and P13's address. -/
theorem test_cfgrFn0 :
    reads (s0 withId) 0x40000000 = some [.byte 0x39]
    ∧ reads (s0 withId) 0x40000E00 = some [.byte 0x80] := by decide
/-- P9, P10. -/
theorem test_cfgrFnx :
    reads (s0 withId) 0x40200000 = some [.byte 0xFF]
    ∧ reads (s0 withId) 0x42E0FF00 = some [.byte 0xFF] := by decide
/-- P11. -/
theorem test_cfgwFnx : pciAfter (s0 Params.test) 0x61604055 .br 0x40 = some 0x00 := by decide
/-- P2, P6, P14. -/
theorem test_cfgwRo :
    pciAfter (s0 withId) 0x60000012 .hb 0x00 = some 0x39
    ∧ pciAfter (s0 Params.test) 0x600050AA .hb 0x50 = some 0x00
    ∧ pciAfter (s0 Params.test) 0x620005FF .st 0x05 = some 0x00 := by decide
/-- P3, P4, P5. -/
theorem test_cfgwCmd :
    pciAfter (s0 Params.test) 0x610004FF .br 0x04 = some 0x01
    ∧ pciAfter (s0 Params.test) 0x62000406 .st 0x04 = some 0x00
    ∧ pciAfter (s0 Params.test) 0x600004FF .hb 0x04 = some 0x07 := by decide
/-- P8, and the second address of TP's HB_MASKED. -/
theorem test_cfgwHbmask :
    pciAfter (s0 Params.test) 0x600052FF .hb 0x52 = some 0x0F
    ∧ pciAfter (s0 Params.test) 0x600053FF .hb 0x53 = some 0x3F := by decide
/-- P7, P18. -/
theorem test_cfgwPlain :
    pciAfter (s0 Params.test) 0x610050AA .br 0x50 = some 0xAA
    ∧ calls (s0 Params.test) 0x610040FF = some [] := by decide
/-- W12: a PCI write moves no window. -/
theorem test_cfgwPlain_no_move :
    (after (mapped .hostBus 0x0200 0) 0x60001240).map (fun t => (t.chip.hostWin.base, readPci t .hb 0x12))
      = some (0x0200, 0x40) := by decide
/-- P15. -/
theorem test_cfgrUnclaimed : reads (s0 Params.test) 0x45000000 = some [.noResponse] := by decide
/-- P16. -/
theorem test_cfgwUnclaimed :
    (after (s0 Params.test) 0x650004FF).map
        (fun t => (readPci t .hb 0x04, readPci t .br 0x04, readPci t .st 0x04)) = some (0, 0, 0) := by
  decide

/-! The lifecycle. -/

/-- L1: what a successful construction does. POWERON itself draws its outcome, which nothing here can
evaluate. -/
theorem test_poweron :
    (built Params.test).phase = .live
    ∧ (built Params.test).trace
        = [.portReg 0x0022 2 .primary, .pciReg 0 .hb, .pciReg 1 .br, .pciReg 2 .st]
    ∧ readIsa (built Params.test) 0x7B = 0 := by decide
/-- L2: what a failed one does. -/
theorem test_poweron_failed :
    (constructionFailed (State.absent Params.test)).phase = .failed
    ∧ (constructionFailed (State.absent Params.test)).trace = [] := by decide
/-- L6, L8, W13: reset leaves the index and a mapped window. -/
theorem test_reset :
    (after (mapped .hostBus 0x0200 0x36) 0xA0000000).map
        (fun t => (readIsa t 0x7B, readIsa t 0x10, t.chip.isaIndex, t.chip.hostWin.base))
      = some (0xFF, 0, 0x36, 0x0200)
    ∧ calls (mapped .hostBus 0x0200 0x36) 0xA0000000 = some [] := by decide
/-- L7. -/
theorem test_reset_recalc :
    (calls (built { Params.test with resetRecalc := true }) 0xA0000000).map
        (fun l => (l.length, l.head?, l.getLast?))
      = some (15, some (.smramSet 0 0 0 false), some .invalidate) := by decide
/-- L10. -/
theorem test_destroy :
    calls (mapped .hostBus 0x0200 0) 0xC0000000
      = some [.portUnreg 0x0200 5 .hostBus, .portUnreg 0x0022 2 .primary, .pciRelease 0, .pciRelease 1,
          .pciRelease 2]
    ∧ (after (mapped .hostBus 0x0200 0) 0xC0000000).map (·.phase) = some .destroyed := by decide
/-- L3, L4, L5, L12. -/
theorem test_notLive :
    refusal (constructionFailed (State.absent Params.test)) 0x00002200 = some .notLive
    ∧ refusal (built Params.test) 0x80000000 = some .notLive
    ∧ refusal (State.absent Params.test) 0xA0000000 = some .notLive
    ∧ refusal (teardown (s0 Params.test)) 0x40000000 = some .notLive := by decide

/-! Witnesses: for each obligation with hypotheses a concrete state and operands that meet them all, at
a boundary value of each clause. -/

theorem witness_DecodeEncodeAgree :
    (live 0x12 0xFFFB 0).params.wf = true
    ∧ rowCondition (live 0x12 0xFFFB 0) (.iowIsaDataBaselo 0xFF) = true
    ∧ rowCondition (live 0x12 0xFFFB 0) (.iowHostData 0xFFFF 0xFF) = true := by decide

theorem witness_DecodedRowIsTheTablesRow :
    decode (live 0x28 0 0) 0x200023FF = .instr (.iowIsaDataSmram 0xFF) := by decide

theorem witness_EveryWordIsOneRowOrInvalid :
    (live 0 0 0).params.wf = true
    ∧ decode (live 0 0 0) 0xE0000000 = .invalidWord
    ∧ decode (live 0 0 0) 0xA0000000 = .instr .reset
    ∧ (answer twoWindows .noResponse).phase = twoWindows.phase
    ∧ (answer twoWindows .noResponse).chip.isaIndex = twoWindows.chip.isaIndex
    ∧ (answer twoWindows .noResponse).chip.hostWin.base = twoWindows.chip.hostWin.base
    ∧ (answer twoWindows .noResponse).chip.localWin.base = twoWindows.chip.localWin.base
    ∧ (answer twoWindows .noResponse).params = twoWindows.params :=
  ⟨by decide, by decide, by decide, rfl, rfl, rfl, rfl, rfl⟩

/-- One word for each way to break the format. -/
theorem witness_InvalidWordsAreThoseThatBreakTheFormat :
    (∀ w ∈ ([0xFFFFFFFF, 0x01002200, 0x00002301, 0x40010000, 0x40000001, 0xC0000001] : List Word),
      BreaksFormat w)
    ∧ (deliver (s0 Params.test) 0xC0000001).input = .word 0xC0000001 :: [] := by
  refine ⟨fun w hw => ?_, rfl⟩
  simp only [List.mem_cons, List.not_mem_nil, or_false] at hw
  rcases hw with rfl | rfl | rfl | rfl | rfl | rfl
  all_goals
    unfold BreaksFormat
    decide

theorem witness_StepRunsTheDecodedInstruction :
    (deliver twoWindows 0x2002045A).input = .word 0x2002045A :: []
    ∧ decode (decodeContext (deliver twoWindows 0x2002045A)) 0x2002045A
        = .instr (.iowHostData 0x0204 0x5A) := ⟨rfl, by decide⟩

theorem witness_IdleAndUnsupportedRequests :
    (s0 Params.test).input = []
    ∧ ({ s0 Params.test with input := [.wide ⟨false, true, 0x22, 2⟩] } : State).input
        = .wide ⟨false, true, 0x22, 2⟩ :: []
    ∧ ({ s0 Params.test with input := [.restore (persisted twoWindows)] } : State).input
        = .restore (persisted twoWindows) :: [] := ⟨rfl, rfl, rfl⟩

/-- A read after a failed construction, a reset before any, a power-on of a live block. -/
theorem witness_NotLiveIsRefused :
    parseWord 0x00002200 = some (.ior 0x22)
    ∧ (constructionFailed (State.absent Params.test)).phase ≠ .live
    ∧ ¬ ((Transaction.ior 0x22) = .poweron
        ∧ (constructionFailed (State.absent Params.test)).phase = .absent)
    ∧ parseWord 0xA0000000 = some .reset ∧ (State.absent Params.test).phase ≠ .live
    ∧ ¬ (Transaction.reset = .poweron ∧ (State.absent Params.test).phase = .absent)
    ∧ parseWord 0x80000000 = some .poweron ∧ (built Params.test).phase ≠ .absent := by decide

/-- Port 0x0024 has one claim of a window at 0x0020, port 0x0022 two; two windows 4 apart. -/
theorem witness_PortConflictIsRefused :
    (mapped .hostBus 0x0020 0).phase = .live
    ∧ 2 ≤ (portClaims 0x0020 0 (accessPort (.write 0x22 0))).length
    ∧ 2 ≤ (portClaims 0x0200 0x0204 (accessPort (.read 0x0204))).length
    ∧ encodeTransaction (conflictTransaction (.read 0x0204)) = 0x00020400 := by decide

/-- Each refusal of the closed list, once. -/
theorem witness_StopsAreTheClosedList :
    step (deliver (s0 Params.test) 0xE0000000) = .refused .invalidWord
    ∧ step (deliver (built Params.test) 0x80000000) = .refused .notLive
    ∧ step (deliver (mapped .hostBus 0x0020 0) 0x20002200) = .refused .portConflict
    ∧ step { s0 Params.test with input := [.wide ⟨false, true, 0x22, 2⟩] } = .refused .wideAccess
    ∧ step (deliver (mapped .hostBus 0xFFFB 0x12) 0x200023FC) = .refused .windowWrap
    ∧ step { s0 Params.test with input := [.restore (persisted twoWindows)] } = .refused .restore
    ∧ step (deliver (State.absent { Params.test with slotSt := 0 }) 0x80000000)
        = .refused .badParameters := ⟨rfl, rfl, rfl, rfl, rfl, rfl, rfl⟩

/-- A relocation to the last base that fits. -/
theorem witness_LiveBlockCompletes :
    (deliver (mapped .hostBus 0xFF00 0x12) 0x200023FB).phase = .live
    ∧ (deliver (mapped .hostBus 0xFF00 0x12) 0x200023FB).input
        = .word (encodeTransaction (.iow 0x23 0xFB)) :: []
    ∧ (portClaims 0xFF00 0 (accessPort (.write 0x23 0xFB))).length ≤ 1
    ∧ (mapped .hostBus 0xFF00 0x12).chip.isaIndex = baseRegister .lo
    ∧ readIsa (mapped .hostBus 0xFF00 0x12) 0x10 = modeOf .hostBus
    ∧ (replacedBase (window (mapped .hostBus 0xFF00 0x12) .hostBus).base .lo 0xFB).toNat = 0xFFFB :=
  ⟨rfl, rfl, by decide, rfl, by decide, by decide⟩

theorem witness_StepsOnlyAppend : ∃ t, step (deliver twoWindows 0x00020100) = .next t := ⟨_, rfl⟩

theorem witness_PhasesFollowTheLifecycle :
    ∃ t, step (deliver twoWindows 0xC0000000) = .next t ∧ t.phase = .destroyed := ⟨_, rfl, rfl⟩

/-- A read of a claimed port, of a port nothing claims, of a PCI byte, each twice. -/
theorem witness_ReadsHaveNoSideEffect :
    twoWindows.phase = .live
    ∧ (portClaims twoWindows.chip.hostWin.base twoWindows.chip.localWin.base 0x0204).length = 1
    ∧ (portClaims twoWindows.chip.hostWin.base twoWindows.chip.localWin.base 0x0205).length = 0
    ∧ (deliver (deliver twoWindows 0x42E0FF00) 0x42E0FF00).input
        = .word (encodeTransaction (.cfgr 2 7 0xFF)) :: .word (encodeTransaction (.cfgr 2 7 0xFF)) :: [] :=
  ⟨rfl, by decide, by decide, rfl⟩

theorem witness_DerivedStateIsNeverRead :
    ∃ t, step (deliver (selected 0 0x28) 0x20002383) = .next t := ⟨_, rfl⟩

/-- No window selected; the last base that fits; the first that does not, by each byte. -/
theorem witness_BaseByteWritesMoveTheSelectedWindow :
    (readIsa (selected 0x08 0x12) 0x10 ≠ 0x06 ∧ readIsa (selected 0x08 0x12) 0x10 ≠ 0x07)
    ∧ readIsa (mapped .hostBus 0xFF00 0x12) 0x10 = modeOf .hostBus
    ∧ (replacedBase (window (mapped .hostBus 0xFF00 0x12) .hostBus).base .lo 0xFB).toNat ≤ 0xFFFB
    ∧ 0xFFFB < (replacedBase (window (mapped .hostBus 0xFF00 0x12) .hostBus).base .lo 0xFC).toNat
    ∧ readIsa (mapped .localBus 0x00FC 0x13) 0x10 = modeOf .localBus
    ∧ (replacedBase (window (mapped .localBus 0x00FC 0x13) .localBus).base .hi 0xFE).toNat ≤ 0xFFFB
    ∧ 0xFFFB < (replacedBase (window (mapped .localBus 0x00FC 0x13) .localBus).base .hi 0xFF).toNat :=
  ⟨by decide, by decide, by decide, by decide, by decide, by decide, by decide⟩

theorem witness_ShadowWriteRecalculates :
    (selected 0 0x25).chip.isaIndex = 0x25 ∧ (selected 0 0x26).chip.isaIndex = 0x26
    ∧ (selected 0 0x27).chip.isaIndex = 0x27 := ⟨rfl, rfl, rfl⟩

/-- Each clause: SMRAM_REG selected; 0x28 selected where SMRAM_REG is 0x27. -/
theorem witness_SmramRegisterIsAParameter :
    (selected 0 0x28).chip.isaIndex ∉ (selected 0 0x28).params.isaRo
    ∧ (selected 0 0x28).chip.isaIndex = (selected 0 0x28).params.smramReg
    ∧ (selected 0 0x28).chip.isaIndex ≠ 0x10 ∧ (selected 0 0x28).chip.isaIndex ≠ 0x12
    ∧ (selected 0 0x28).chip.isaIndex ≠ 0x13
    ∧ (writeIsaIndex (s0 { Params.test with smramReg := 0x27 }) 0x28).chip.isaIndex = 0x28
    ∧ (writeIsaIndex (s0 { Params.test with smramReg := 0x27 }) 0x28).params.smramReg ≠ 0x28
    ∧ (writeIsaIndex (s0 { Params.test with smramReg := 0x27 }) 0x28).chip.isaIndex
        ∉ (writeIsaIndex (s0 { Params.test with smramReg := 0x27 }) 0x28).params.isaRo :=
  ⟨by decide, rfl, by decide, by decide, by decide, rfl, by decide, by decide⟩

/-- Its inner premise holds of TP. -/
theorem witness_SmramWriteForwardsThenRecalculates : (s0 Params.test).params.smramReg = 0x28 := rfl

theorem witness_SmramWriteOfRegister28 : (selected 0 0x28).params.smramReg = 0x28 := rfl

/-- Two states that differ in register 0x7B and agree in the four bytes. -/
theorem witness_RecalculationReadsFourBytesOnly :
    readIsa (s0 Params.test) 0x25 = readIsa (built Params.test) 0x25
    ∧ readIsa (s0 Params.test) 0x26 = readIsa (built Params.test) 0x26
    ∧ readIsa (s0 Params.test) 0x27 = readIsa (built Params.test) 0x27
    ∧ readIsa (s0 Params.test) 0x28 = readIsa (built Params.test) 0x28
    ∧ readIsa (s0 Params.test) 0x7B ≠ readIsa (built Params.test) 0x7B := by decide

theorem witness_RecalculationHasNoDrift :
    (selected 0 0x27).chip.isaIndex = 0x25 ∨ (selected 0 0x27).chip.isaIndex = 0x26
    ∨ (selected 0 0x27).chip.isaIndex = 0x27 := .inr (.inr rfl)

theorem witness_NothingElseRecalculates :
    (∃ t, exec (.iowIsaDataPlain 0xFF) (selected 0 0x24) = .next t)
    ∧ recalculates Params.test (.iowIsaDataPlain 0xFF) = false
    ∧ (∃ t, exec .reset (s0 Params.test) = .next t) ∧ recalculates Params.test .reset = false :=
  ⟨⟨_, rfl⟩, rfl, ⟨_, rfl⟩, rfl⟩

theorem witness_NothingElseMovesAWindow :
    (∃ t, exec .reset twoWindows = .next t) ∧ movesWindows .reset = false
    ∧ (∃ t, exec (.cfgwPlain .hb 0x12 0x40) twoWindows = .next t)
    ∧ movesWindows (.cfgwPlain .hb 0x12 0x40) = false := ⟨⟨_, rfl⟩, rfl, ⟨_, rfl⟩, rfl⟩

/-- A masked register, and a base register that moves a window. -/
theorem witness_PrimaryReadback :
    (∃ t, exec (decodePrimaryWrite (decodeContext (selected 0 0x21)) 0xFF) (selected 0 0x21) = .next t)
    ∧ ∃ t, exec (decodePrimaryWrite (decodeContext (mapped .hostBus 0x0200 0x12)) 0x40)
        (mapped .hostBus 0x0200 0x12) = .next t := ⟨⟨_, rfl⟩, _, rfl⟩

/-- A register that is no base register, and a base register with no window selected. -/
theorem witness_ReadbackThroughThePorts :
    (s0 Params.test).phase = .live
    ∧ (portClaims (s0 Params.test).chip.hostWin.base (s0 Params.test).chip.localWin.base 0x22).length = 1
    ∧ (portClaims (s0 Params.test).chip.hostWin.base (s0 Params.test).chip.localWin.base 0x23).length = 1
    ∧ ((0x28 : Byte) ≠ 0x12 ∧ (0x28 : Byte) ≠ 0x13)
    ∧ (readIsa (s0 Params.test) 0x10 ≠ 0x06 ∧ readIsa (s0 Params.test) 0x10 ≠ 0x07)
    ∧ (deliver (deliver (deliver (deliver (s0 Params.test) 0x00002300) 0x20002228) 0x200023FF)
        0x20002228).input
        = .word (encodeTransaction (.iow 0x22 0x28)) :: .word (encodeTransaction (.iow 0x23 0xFF))
          :: .word (encodeTransaction (.iow 0x22 0x28)) :: .word (encodeTransaction (.ior 0x23)) :: [] :=
  ⟨rfl, by decide, by decide, by decide, by decide, rfl⟩

theorem witness_PciWritesStore :
    hbMask (s0 Params.test).params 0x52 = some 0x0F ∧ hbMask (s0 Params.test).params 0x53 = some 0x3F :=
  ⟨rfl, rfl⟩

/-- Function index 0 and 7 of the bridge. -/
theorem witness_PciReadback :
    (s0 Params.test).phase = .live ∧ (s0 Params.test).params.wf = true
    ∧ (deliver (deliver (s0 Params.test) 0x41000400) 0x610004FF).input
        = .word (encodeTransaction (.cfgw (slotOf Params.test .br) 0 0x04 0xFF))
          :: .word (encodeTransaction (.cfgr (slotOf Params.test .br) 0 0x04)) :: []
    ∧ (deliver (deliver (s0 Params.test) 0x41E0FF00) 0x61E0FFFF).input
        = .word (encodeTransaction (.cfgw (slotOf Params.test .br) 7 0xFF 0xFF))
          :: .word (encodeTransaction (.cfgr (slotOf Params.test .br) 7 0xFF)) :: [] :=
  ⟨rfl, by decide, rfl, rfl⟩

theorem witness_PciTransactionsTouchOnlyPci :
    twoWindows.phase = .live
    ∧ (deliver twoWindows 0x5FE00000).input = .word (encodeTransaction (.cfgr 31 7 0)) :: []
    ∧ (deliver twoWindows 0x60001240).input = .word (encodeTransaction (.cfgw 0 0 0x12 0x40)) :: [] :=
  ⟨rfl, rfl, rfl⟩

theorem witness_IllFormedParametersAreRefused :
    (deliver (State.absent { Params.test with slotSt := 0 }) 0x80000000).phase = .absent
    ∧ (deliver (State.absent { Params.test with slotSt := 0 }) 0x80000000).params.wf = false
    ∧ (deliver (State.absent { Params.test with slotSt := 0 }) 0x80000000).input = .word 0x80000000 :: [] :=
  ⟨rfl, by decide, rfl⟩

/-- A well-formed set; of the two clauses on the draw exactly one holds. -/
theorem witness_PowerOnConstructsOrFails :
    (State.absent Params.test).phase = .absent ∧ (State.absent Params.test).params.wf = true
    ∧ (Config.constructionSucceeds (State.absent Params.test).draws = true
        ∨ Config.constructionSucceeds (State.absent Params.test).draws = false) := by
  refine ⟨rfl, by decide, ?_⟩
  cases Config.constructionSucceeds (State.absent Params.test).draws
  · exact .inr rfl
  · exact .inl rfl

theorem witness_ResetClearsThePrimaryRegisters :
    (s0 Params.test).params.resetRecalc = false
    ∧ (s0 { Params.test with resetRecalc := true }).params.resetRecalc = true := by decide

/-! Invariants: a state that meets each, and a step from it. -/

/-- A live block about to move its host-bus window. -/
def moving : State := deliver (mapped .hostBus 0x0200 0x12) 0x20002340

/-- A live block with a shadowed region, about to shadow another. -/
def shadowing : State :=
  deliver (recalc (writeIsa (selected 0 0x26) 0x25 0x05)) 0x200023C0

theorem moving_steps : ∃ t, step moving = .next t := ⟨_, rfl⟩

theorem witness_SilentUnlessConstructed : SilentUnlessConstructed moving := by
  rintro (h | h) <;> cases h

theorem witness_RegistrationsAgreeIsKept :
    SilentUnlessConstructed moving ∧ RegistrationsAgree moving ∧ ∃ t, step moving = .next t := by
  refine ⟨witness_SilentUnlessConstructed, ?_, moving_steps⟩
  intro o
  cases o <;> decide

theorem witness_NeverDoubleRegisteredIsKept :
    SilentUnlessConstructed moving ∧ RegistrationsAgree moving ∧ NeverDoubleRegistered moving
    ∧ ∃ t, step moving = .next t := by
  refine ⟨witness_RegistrationsAgreeIsKept.1, witness_RegistrationsAgreeIsKept.2.1, ?_, moving_steps⟩
  intro done hd o
  have hp : ∀ d ∈ moving.trace.inits, (heldBy .primary d).length ≤ 1 := by decide
  have hh : ∀ d ∈ moving.trace.inits, (heldBy .hostBus d).length ≤ 1 := by decide
  have hl : ∀ d ∈ moving.trace.inits, (heldBy .localBus d).length ≤ 1 := by decide
  have hm := (List.mem_inits done moving.trace).2 hd
  cases o
  · exact hp done hm
  · exact hh done hm
  · exact hl done hm

theorem witness_PciRegistrationsAgreeIsKept :
    PciRegistrationsAgree moving ∧ ∃ t, step moving = .next t := by
  refine ⟨?_, moving_steps⟩
  unfold PciRegistrationsAgree
  decide

theorem witness_AppliedStateAgreesIsKept :
    SilentUnlessConstructed shadowing ∧ AppliedStateAgrees shadowing
    ∧ ∃ t, step shadowing = .next t := by
  refine ⟨?_, ?_, _, rfl⟩
  · rintro (h | h) <;> cases h
  · unfold AppliedStateAgrees
    decide

theorem witness_RegionsCoherentIsKept :
    RegionsCoherent shadowing ∧ ∃ t, step shadowing = .next t :=
  ⟨fun _ => .inr ⟨shadowBytes shadowing.chip.isaRegisters, rfl, rfl, rfl, .inl rfl⟩, _, rfl⟩

theorem witness_MaskedBitsStayZero :
    MaskedBitsZero (deliver (s0 Params.test) 0x2000227B)
    ∧ ∃ t, step (deliver (s0 Params.test) 0x2000227B) = .next t := by
  refine ⟨?_, _, rfl⟩
  intro _ a ha
  have h : readIsa (deliver (s0 Params.test) 0x2000227B) a = 0 := by
    change RegFile.read resetRegisters a = 0
    rw [resetRegisters, RegFile.read_write, if_neg ha]
    exact RegFile.read_zero a
  rw [h]
  exact BitVec.zero_and

theorem witness_PciBytesStayProtected :
    LiveParametersWellFormed (deliver (s0 Params.test) 0x610004FF)
    ∧ PciBytesProtected (deliver (s0 Params.test) 0x610004FF)
    ∧ ∃ t, step (deliver (s0 Params.test) 0x610004FF) = .next t := by
  refine ⟨fun _ => by decide, ?_, _, rfl⟩
  have hc : ∀ u a, readPci (deliver (s0 Params.test) 0x610004FF) u a = constructionByte Params.test u a :=
    fun u a => read_constructionPci Params.test u a
  intro _
  refine ⟨fun u a _ => hc u a, fun u => ?_, fun a m hm => ?_⟩
  · rw [hc]
    cases u <;> decide
  · rw [hc]
    change hbMask Params.test a = some m at hm
    by_cases h0 : a = 0x52
    · subst h0
      cases hm
      decide
    · by_cases h1 : a = 0x53
      · subst h1
        cases hm
        decide
      · have hn : hbMask Params.test a = none := (if_neg h0).trans (if_neg h1)
        rw [hn] at hm
        cases hm

theorem witness_WindowsStayInThePortSpace :
    WindowsFit (deliver (mapped .hostBus 0xFF00 0x12) 0x200023FB)
    ∧ ∃ t, step (deliver (mapped .hostBus 0xFF00 0x12) 0x200023FB) = .next t :=
  ⟨fun _ => by decide, _, rfl⟩

end Sys2Proof.Tests
end

section
/-! PROOFS. The port claims pair by pair (R62), and reads without side effect (R72). -/

namespace Sys2Proof.Machine

/-! The claims on a port. -/

/-- A window's claims as R62 states them, on naturals, so that no sum wraps. -/
theorem mem_windowClaim (w : WindowId) (base p : Port) (o : Owner) (n : Nat) :
    (o, n) ∈ windowClaim w base p
      ↔ o = w.owner ∧ base ≠ 0 ∧ n ≤ 4 ∧ p.toNat = base.toNat + n := by
  unfold windowClaim
  split
  case isTrue h =>
    obtain ⟨hbase, hle, hspan⟩ := h
    have hspan' : p.toNat - base.toNat < 5 := hspan
    have hn : n = p.toNat - base.toNat ↔ n ≤ 4 ∧ p.toNat = base.toNat + n := by omega
    rw [List.mem_singleton, Prod.mk.injEq, hn]
    exact and_congr_right fun _ => (and_iff_right hbase).symm
  case isFalse h =>
    refine ⟨fun hmem => absurd hmem List.not_mem_nil, ?_⟩
    rintro ⟨-, hbase, hn, hp⟩
    have hspan : p.toNat - base.toNat < 5 := by omega
    exact absurd ⟨hbase, by omega, hspan⟩ h

/-- A primary claim is on its one port, at the offset of that port (R62). -/
theorem mem_primaryClaim (port p : Port) (offset n : Nat) (o : Owner) :
    (o, n) ∈ (if p = port then [(Owner.primary, offset)] else [])
      ↔ o = .primary ∧ n = offset ∧ p = port := by
  split
  case isTrue h => simp [h]
  case isFalse h => simp [h]

/-- Settles O7: a port's claims are the two primary ones and those of the two windows. -/
theorem portClaimsAreTheRules : Obligations.PortClaimsAreTheRules := by
  intro hostBase localBase p o n
  unfold portClaims
  rw [List.mem_append, List.mem_append, List.mem_append, mem_primaryClaim, mem_primaryClaim,
    mem_windowClaim, mem_windowClaim, or_assoc, or_assoc]
  rfl

/-! Reads. -/

/-- What a read row answers in a state (R121 to R137, R229 to R236); none for a row that is no read. -/
def readAnswer (s : State) : Instr → Option ReadResult
  | .iorIsaIndex => some (.byte s.chip.isaIndex)
  | .iorIsaData => some (.byte (readIsa s s.chip.isaIndex))
  | .iorHostIndex _ => some (.byte (window s .hostBus).index)
  | .iorHostData _ => some (.byte (readWindowData s .hostBus))
  | .iorHostGap _ => some (.byte Config.sentinel)
  | .iorLocalIndex _ => some (.byte (window s .localBus).index)
  | .iorLocalData _ => some (.byte (readWindowData s .localBus))
  | .iorLocalGap _ => some (.byte Config.sentinel)
  | .iorUnclaimed _ => some .noResponse
  | .cfgrFn0 u a => some (.byte (readPci s u a))
  | .cfgrFnx _ _ _ => some (.byte Config.sentinel)
  | .cfgrUnclaimed _ _ _ => some .noResponse
  | _ => none

/-- Running a read row answers and does nothing else (R72). -/
theorem exec_of_readAnswer {s : State} {i : Instr} {r : ReadResult} (h : readAnswer s i = some r) :
    exec i s = .next (answer s r) := by
  cases i
  case iorIsaIndex | iorIsaData | iorHostIndex | iorHostData | iorHostGap | iorLocalIndex
      | iorLocalData | iorLocalGap | iorUnclaimed | cfgrFn0 | cfgrFnx | cfgrUnclaimed =>
    cases h
    rfl
  all_goals cases h

/-- A row's answer depends on the record alone: taking the queue's head leaves it. -/
@[simp] theorem readAnswer_consume (s : State) (i : Instr) :
    readAnswer (consume s) i = readAnswer s i := rfl

/-- A row's answer depends on the record alone: an earlier answer leaves it. -/
@[simp] theorem readAnswer_answer (s : State) (r : ReadResult) (i : Instr) :
    readAnswer (answer s r) i = readAnswer s i := rfl

@[simp] theorem decodeContext_consume (s : State) : decodeContext (consume s) = decodeContext s := rfl

@[simp] theorem decodeContext_answer (s : State) (r : ReadResult) :
    decodeContext (answer s r) = decodeContext s := rfl

/-- Every read of a port with at most one claim decodes to a row with an answer (R100). -/
theorem decodeIoRead_answers (s : State) (c : DecodeContext) (p : Port)
    (h : (portClaims c.hostBase c.localBase p).length ≤ 1) :
    ∃ r, readAnswer s (decodeIoRead c p) = some r := by
  unfold decodeIoRead
  split
  case h_10 hclaims => simp [hclaims] at h
  all_goals exact ⟨_, rfl⟩

/-- Every configuration read decodes to a row with an answer (R102). -/
theorem decodeCfgRead_answers (s : State) (c : DecodeContext) (d : Slot) (fn : FnIndex) (a : Byte) :
    ∃ r, readAnswer s (decodeCfgRead c d fn a) = some r := by
  unfold decodeCfgRead
  split
  · exact ⟨_, rfl⟩
  · split <;> exact ⟨_, rfl⟩

/-- A live block decodes a read of a port with at most one claim, or of a configuration address, to a
row with an answer (R99, R100, R102). -/
theorem decodeTransaction_read_answers (s : State) (x : Transaction) (hlive : s.phase = .live)
    (hx : (∃ p, x = .ior p ∧ (portClaims s.chip.hostWin.base s.chip.localWin.base p).length ≤ 1)
      ∨ (∃ d fn a, x = .cfgr d fn a)) :
    ∃ r, readAnswer s (decodeTransaction (decodeContext s) x) = some r := by
  obtain ⟨p, rfl, hclaims⟩ | ⟨d, fn, a, rfl⟩ := hx
  · simpa [decodeTransaction, hlive] using decodeIoRead_answers s (decodeContext s) p hclaims
  · simpa [decodeTransaction, hlive] using decodeCfgRead_answers s (decodeContext s) d fn a

/-- The step on a transaction's word: the row the transaction is in this state, on the state with the
word taken (R21, R90). -/
theorem step_of_transaction {s : State} {x : Transaction} {rest : List HostRequest}
    (h : s.input = .word (encodeTransaction x) :: rest) :
    step s = exec (decodeTransaction (decodeContext s) x) (consume s) := by
  simp [step, fetch, h, decode, parseWord_encodeTransaction]

/-- The step on a read's word takes the word, answers, and does nothing else (R72). -/
theorem step_of_read {s : State} {x : Transaction} {rest : List HostRequest} {r : ReadResult}
    (h : s.input = .word (encodeTransaction x) :: rest)
    (hr : readAnswer s (decodeTransaction (decodeContext s) x) = some r) :
    step s = .next (answer (consume s) r) := by
  rw [step_of_transaction h]
  exact exec_of_readAnswer hr

/-- Settles O16: the first read leaves all that decode and the answer depend on, so the second is the
same step again. -/
theorem readsHaveNoSideEffect : Obligations.ReadsHaveNoSideEffect := by
  intro s x rest hlive hx hinput
  obtain ⟨r, hr⟩ := decodeTransaction_read_answers s x hlive hx
  have hfirst : step s = .next (answer (consume s) r) := step_of_read hinput hr
  have hqueue : (answer (consume s) r).input = .word (encodeTransaction x) :: rest := by
    simp [hinput]
  have hsecond : step (answer (consume s) r)
      = .next (answer (consume (answer (consume s) r)) r) :=
    step_of_read hqueue (by simpa using hr)
  refine ⟨r, _, _, hfirst, hsecond, rfl, ?_⟩
  simp [answer, consume, hinput]

end Sys2Proof.Machine
end

section
/-! PROOFS. The encoding: the words that are invalid (R96), and every other word as exactly one row
(R98). -/

namespace Sys2Proof.Machine

/-! Invalid words (R96). -/

/-- A word is invalid where it parses to no transaction, whatever the state (R257). -/
theorem decode_eq_invalidWord_iff (c : DecodeContext) (w : Word) :
    decode c w = .invalidWord ↔ parseWord w = none := by
  unfold decode
  split
  case h_1 h => simp [h]
  case h_2 t h => simp [h]

/-- A valid word decodes to the row of its transaction. -/
theorem decode_of_parseWord (c : DecodeContext) {w : Word} {t : Transaction}
    (h : parseWord w = some t) : decode c w = .instr (decodeTransaction c t) := by
  simp [decode, h]

/-- The kind is the word's quotient by `2 ^ 29` (R91). -/
theorem kindField_eq_iff (w : Word) (k : BitVec 3) :
    kindField w = k ↔ w.toNat / 2 ^ 29 = k.toNat := by
  rw [← BitVec.toNat_inj, kindField, BitVec.extractLsb'_toNat, Nat.shiftRight_eq_div_pow,
    Nat.mod_eq_of_lt (by omega)]

theorem ioZeroField_eq_zero_iff (w : Word) : ioZeroField w = 0 ↔ w.toNat / 2 ^ 24 % 32 = 0 := by
  rw [← BitVec.toNat_inj, ioZeroField, BitVec.extractLsb'_toNat, Nat.shiftRight_eq_div_pow]
  rfl

theorem cfgZeroField_eq_zero_iff (w : Word) : cfgZeroField w = 0 ↔ w.toNat / 2 ^ 16 % 32 = 0 := by
  rw [← BitVec.toNat_inj, cfgZeroField, BitVec.extractLsb'_toNat, Nat.shiftRight_eq_div_pow]
  rfl

theorem lcZeroField_eq_zero_iff (w : Word) : lcZeroField w = 0 ↔ w.toNat % 2 ^ 29 = 0 := by
  rw [← BitVec.toNat_inj, lcZeroField, BitVec.extractLsb'_toNat, Nat.shiftRight_zero]
  rfl

theorem dataField_eq_zero_iff (w : Word) : dataField w = 0 ↔ w.toNat % 256 = 0 := by
  rw [← BitVec.toNat_inj, dataField, BitVec.extractLsb'_toNat, Nat.shiftRight_zero]
  rfl

/-- A word parses to no transaction exactly where it breaks the format: kind by kind, the guard that
`parseWord` tests is the must-be-0 fields of that kind's format (R92 to R96). -/
theorem parseWord_eq_none_iff (w : Word) : parseWord w = none ↔ BreaksFormat w := by
  have hkind : w.toNat / 2 ^ 29 < 8 := by omega
  simp only [parseWord, BreaksFormat, kindField_eq_iff, ioZeroField_eq_zero_iff,
    cfgZeroField_eq_zero_iff, lcZeroField_eq_zero_iff, dataField_eq_zero_iff]
  generalize w.toNat / 2 ^ 29 = kind at hkind ⊢
  interval_cases kind <;> simp <;> omega

/-- A step that is delivered an invalid word is refused by name, in every state (R96, R257). -/
theorem step_of_parseWord_none {s : State} {w : Word} {rest : List HostRequest}
    (hinput : s.input = .word w :: rest) (h : parseWord w = none) :
    step s = .refused .invalidWord := by
  simp [step, fetch, hinput, (decode_eq_invalidWord_iff (decodeContext s) w).2 h]

/-- Settles O4: decode and the step reject a word where `parseWord` does, which is where it breaks
the format. -/
theorem invalidWordsAreThoseThatBreakTheFormat :
    Obligations.InvalidWordsAreThoseThatBreakTheFormat :=
  ⟨fun c w => (decode_eq_invalidWord_iff c w).trans (parseWord_eq_none_iff w),
    fun _ w _ hinput h => step_of_parseWord_none hinput ((parseWord_eq_none_iff w).2 h)⟩

/-! The claims that the rows' conditions ask for (R62, R100, R101). -/

/-- A sole claim by the primary window tells the port by its offset (R61, R62). -/
theorem port_of_primaryClaim {hostBase localBase p : Port} {n : Nat}
    (h : portClaims hostBase localBase p = [(.primary, n)]) :
    (n = 0 ∧ p = Config.isaIndexPort) ∨ (n = 1 ∧ p = Config.isaDataPort) := by
  have hmem : (Owner.primary, n) ∈ portClaims hostBase localBase p := by simp [h]
  simpa [Config.isaIndexPort, Config.isaDataPort] using
    (portClaimsAreTheRules hostBase localBase p .primary n).1 hmem

/-- Port 0x22 always carries the primary window's index claim, so one claim on it is that one. -/
theorem solePrimaryClaim_indexPort_iff (c : DecodeContext) :
    solePrimaryClaim c Config.isaIndexPort = true
      ↔ portClaims c.hostBase c.localBase Config.isaIndexPort = [(.primary, 0)] := by
  have hne : Config.isaIndexPort ≠ Config.isaDataPort := by decide
  simp [solePrimaryClaim, portClaims, hne]

/-- Port 0x23 always carries the primary window's data claim, so one claim on it is that one. -/
theorem solePrimaryClaim_dataPort_iff (c : DecodeContext) :
    solePrimaryClaim c Config.isaDataPort = true
      ↔ portClaims c.hostBase c.localBase Config.isaDataPort = [(.primary, 1)] := by
  have hne : Config.isaDataPort ≠ Config.isaIndexPort := by decide
  simp [solePrimaryClaim, portClaims, hne]

theorem dataWriteCondition_iff (c : DecodeContext) (k : PrimaryClass) :
    dataWriteCondition c k = true ↔ c.phase = .live
      ∧ portClaims c.hostBase c.localBase Config.isaDataPort = [(.primary, 1)]
      ∧ primaryClass c.params c.isaIndex = k := by
  simp [dataWriteCondition, solePrimaryClaim_dataPort_iff, and_assoc]

theorem windowCondition_iff (c : DecodeContext) (w : WindowId) (q : Port) (offset : Nat → Bool) :
    windowCondition c w q offset = true ↔ c.phase = .live
      ∧ ∃ n, portClaims c.hostBase c.localBase q = [(w.owner, n)] ∧ offset n = true := by
  unfold windowCondition soleWindowClaim
  split
  case h_1 o n hclaims => simp [hclaims]
  case h_2 hclaims =>
    simp only [Bool.and_false, Bool.false_eq_true, false_iff]
    rintro ⟨-, n, hn, -⟩
    exact hclaims _ _ hn

/-- A read of a port with two or more claims is IO_CONFLICT (R139). -/
theorem decodeIoRead_of_conflict {c : DecodeContext} {p : Port}
    (h : 2 ≤ (portClaims c.hostBase c.localBase p).length) :
    decodeIoRead c p = .ioConflict (.read p) := by
  unfold decodeIoRead
  split
  case h_10 => rfl
  all_goals next hclaims => simp [hclaims] at h

/-- A write of a port with two or more claims is IO_CONFLICT (R139). -/
theorem decodeIoWrite_of_conflict {c : DecodeContext} {p : Port} (v : Byte)
    (h : 2 ≤ (portClaims c.hostBase c.localBase p).length) :
    decodeIoWrite c p v = .ioConflict (.write p v) := by
  unfold decodeIoWrite
  split
  case h_10 => rfl
  all_goals next hclaims => simp [hclaims] at h

/-! The write classes that the configuration rows' conditions name (R102, R224 to R228). -/

theorem pciClass_eq_ro_iff (p : Params) (u : PciUnit) (a : Byte) :
    pciClass p u a = .ro ↔ pciReadOnly p u a = true := by
  unfold pciClass
  split_ifs with hro <;> simp [hro]

theorem pciClass_eq_cmd_iff (p : Params) (u : PciUnit) (a : Byte) :
    pciClass p u a = .cmd ↔ pciReadOnly p u a = false ∧ a = Config.pciCmd := by
  unfold pciClass
  split_ifs <;> simp_all

/-- Only the host bridge has masked addresses (R227). -/
theorem unit_of_pciClass_hbmask {p : Params} {u : PciUnit} {a : Byte}
    (h : pciClass p u a = .hbmask) : u = .hb := by
  unfold pciClass at h
  split_ifs at h with _ _ hmasked
  exact hmasked.1

/-! A row whose condition holds is the row that its transaction decodes to. -/

/-- Row by row: the condition fixes the claims, the class or the unit that decode matches on (R99 to
R102). Well-formedness is needed where a row names a unit: its slot must name that unit alone. -/
theorem decodeTransaction_transactionOf (c : DecodeContext) (i : Instr) (hwf : c.params.wf = true)
    (h : rowCondition c i = true) : decodeTransaction c (transactionOf c.params i) = i := by
  have hunit := unitAt_slotOf c.params hwf
  cases i
  case iorIsaIndex | iowIsaIndex =>
    obtain ⟨hlive, hclaims⟩ : c.phase = .live
        ∧ portClaims c.hostBase c.localBase Config.isaIndexPort = [(.primary, 0)] := by
      simpa [rowCondition, solePrimaryClaim_indexPort_iff] using h
    simp [transactionOf, decodeTransaction, hlive, decodeIoRead, decodeIoWrite, hclaims]
  case iorIsaData =>
    obtain ⟨hlive, hclaims⟩ : c.phase = .live
        ∧ portClaims c.hostBase c.localBase Config.isaDataPort = [(.primary, 1)] := by
      simpa [rowCondition, solePrimaryClaim_dataPort_iff] using h
    simp [transactionOf, decodeTransaction, hlive, decodeIoRead, hclaims]
  case iowIsaDataRo | iowIsaDataModesel | iowIsaDataBaselo | iowIsaDataBasehi | iowIsaDataShadow
      | iowIsaDataSmram | iowIsaDataMasked | iowIsaDataPlain =>
    obtain ⟨hlive, hclaims, hclass⟩ := (dataWriteCondition_iff c _).1 h
    simp [transactionOf, decodeTransaction, hlive, decodeIoWrite, hclaims, decodePrimaryWrite,
      hclass]
  case iorHostIndex | iowHostIndex | iorHostData | iowHostData | iorHostGap | iowHostGap
      | iorLocalIndex | iowLocalIndex | iorLocalData | iowLocalData | iorLocalGap | iowLocalGap =>
    obtain ⟨hlive, n, hclaims, hn⟩ := (windowCondition_iff c _ _ _).1 h
    simp only [beq_iff_eq, Bool.and_eq_true, bne_iff_ne] at hn
    simp [transactionOf, decodeTransaction, hlive, decodeIoRead, decodeIoWrite, hclaims,
      WindowId.owner, hn]
  case iorUnclaimed q | iowUnclaimed q v =>
    obtain ⟨hlive, hclaims⟩ : c.phase = .live ∧ portClaims c.hostBase c.localBase q = [] := by
      simpa [rowCondition] using h
    simp [transactionOf, decodeTransaction, hlive, decodeIoRead, decodeIoWrite, hclaims]
  case ioConflict access =>
    obtain ⟨hlive, hlen⟩ : c.phase = .live
        ∧ 2 ≤ (portClaims c.hostBase c.localBase (accessPort access)).length := by
      simpa [rowCondition] using h
    cases access with
    | read p =>
      simpa [transactionOf, conflictTransaction, decodeTransaction, hlive]
        using decodeIoRead_of_conflict (p := p) hlen
    | write p v =>
      simpa [transactionOf, conflictTransaction, decodeTransaction, hlive]
        using decodeIoWrite_of_conflict (p := p) v hlen
  case cfgrFn0 =>
    have hlive : c.phase = .live := by simpa [rowCondition] using h
    simp [transactionOf, decodeTransaction, hlive, decodeCfgRead, hunit]
  case cfgrFnx u fn a | cfgwFnx u fn a v =>
    obtain ⟨hlive, hfn⟩ : c.phase = .live ∧ fn ≠ 0#3 := by simpa [rowCondition] using h
    simp [transactionOf, decodeTransaction, hlive, decodeCfgRead, decodeCfgWrite, hunit, hfn]
  case cfgwRo u a v =>
    obtain ⟨hlive, hclass⟩ : c.phase = .live ∧ pciClass c.params u a = .ro := by
      simpa [rowCondition, pciClass_eq_ro_iff] using h
    simp [transactionOf, decodeTransaction, hlive, decodeCfgWrite, hunit, hclass]
  case cfgwCmd u v =>
    obtain ⟨hlive, hclass⟩ : c.phase = .live ∧ pciClass c.params u Config.pciCmd = .cmd := by
      simpa [rowCondition, pciClass_eq_cmd_iff] using h
    simp [transactionOf, decodeTransaction, hlive, decodeCfgWrite, hunit, hclass]
  case cfgwHbmask | cfgwPlain =>
    simp only [rowCondition, Bool.and_eq_true, beq_iff_eq] at h
    obtain ⟨hlive, hclass⟩ := h
    simp [transactionOf, decodeTransaction, hlive, decodeCfgWrite, hunit, hclass]
  case cfgrUnclaimed d fn a | cfgwUnclaimed d fn a v =>
    obtain ⟨hlive, hslot⟩ : c.phase = .live ∧ unitAt c.params d = none := by
      simpa [rowCondition] using h
    simp [transactionOf, decodeTransaction, hlive, decodeCfgRead, decodeCfgWrite, hslot]
  case poweron =>
    have habsent : c.phase = .absent := by simpa [rowCondition] using h
    simp [transactionOf, decodeTransaction, habsent]
  case reset | destroy =>
    have hlive : c.phase = .live := by simpa [rowCondition] using h
    simp [transactionOf, decodeTransaction, hlive]
  case notLive t =>
    cases hphase : c.phase with
    | live =>
      have ht : t = .poweron := by simpa [rowCondition, hphase] using h
      simp [transactionOf, decodeTransaction, hphase, ht]
    | absent =>
      have ht : t ≠ .poweron := by simpa [rowCondition, hphase] using h
      simp [transactionOf, decodeTransaction, hphase, ht]
    | failed | destroyed => simp [transactionOf, decodeTransaction, hphase]

/-- The word of a row whose condition holds decodes to that row (R103). -/
theorem decode_encode (c : DecodeContext) (i : Instr) (hwf : c.params.wf = true)
    (h : rowCondition c i = true) : decode c (encode c.params i) = .instr i := by
  rw [encode, decode_of_parseWord c (parseWord_encodeTransaction _),
    decodeTransaction_transactionOf c i hwf h]

/-! The row that a transaction decodes to has its condition. -/

theorem rowCondition_decodeIoRead (c : DecodeContext) (p : Port) (hlive : c.phase = .live) :
    rowCondition c (decodeIoRead c p) = true := by
  unfold decodeIoRead
  split
  case h_1 hclaims => simp [rowCondition, hlive, hclaims]
  case h_2 hclaims =>
    obtain ⟨-, rfl⟩ | ⟨hn, -⟩ := port_of_primaryClaim hclaims
    · simp [rowCondition, hlive, solePrimaryClaim_indexPort_iff, hclaims]
    · cases hn
  case h_3 hn hclaims =>
    obtain ⟨hzero, -⟩ | ⟨rfl, rfl⟩ := port_of_primaryClaim hclaims
    · exact absurd hzero hn
    · simp [rowCondition, hlive, solePrimaryClaim_dataPort_iff, hclaims]
  case h_4 hclaims | h_5 hclaims | h_6 hclaims | h_7 hclaims | h_8 hclaims | h_9 hclaims =>
    exact (windowCondition_iff c _ p _).2 ⟨hlive, _, hclaims, by simp_all⟩
  case h_10 hclaims => simp [rowCondition, hlive, accessPort, hclaims]

theorem rowCondition_decodePrimaryWrite (c : DecodeContext) (v : Byte) (hlive : c.phase = .live)
    (hclaims : portClaims c.hostBase c.localBase Config.isaDataPort = [(.primary, 1)]) :
    rowCondition c (decodePrimaryWrite c v) = true := by
  unfold decodePrimaryWrite
  split
  all_goals
    next hclass => exact (dataWriteCondition_iff c _).2 ⟨hlive, hclaims, hclass⟩

theorem rowCondition_decodeIoWrite (c : DecodeContext) (p : Port) (v : Byte)
    (hlive : c.phase = .live) : rowCondition c (decodeIoWrite c p v) = true := by
  unfold decodeIoWrite
  split
  case h_1 hclaims => simp [rowCondition, hlive, hclaims]
  case h_2 hclaims =>
    obtain ⟨-, rfl⟩ | ⟨hn, -⟩ := port_of_primaryClaim hclaims
    · simp [rowCondition, hlive, solePrimaryClaim_indexPort_iff, hclaims]
    · cases hn
  case h_3 hn hclaims =>
    obtain ⟨hzero, -⟩ | ⟨rfl, rfl⟩ := port_of_primaryClaim hclaims
    · exact absurd hzero hn
    · exact rowCondition_decodePrimaryWrite c v hlive hclaims
  case h_4 hclaims | h_5 hclaims | h_6 hclaims | h_7 hclaims | h_8 hclaims | h_9 hclaims =>
    exact (windowCondition_iff c _ p _).2 ⟨hlive, _, hclaims, by simp_all⟩
  case h_10 hclaims => simp [rowCondition, hlive, accessPort, hclaims]

theorem rowCondition_decodeCfgRead (c : DecodeContext) (d : Slot) (fn : FnIndex) (a : Byte)
    (hlive : c.phase = .live) : rowCondition c (decodeCfgRead c d fn a) = true := by
  unfold decodeCfgRead
  split
  case h_1 hslot => simp [rowCondition, hlive, hslot]
  case h_2 =>
    split
    case isTrue => simp [rowCondition, hlive]
    case isFalse hfn => simpa [rowCondition, hlive] using hfn

theorem rowCondition_decodeCfgWrite (c : DecodeContext) (d : Slot) (fn : FnIndex) (a v : Byte)
    (hlive : c.phase = .live) : rowCondition c (decodeCfgWrite c d fn a v) = true := by
  unfold decodeCfgWrite
  split
  case h_1 hslot => simp [rowCondition, hlive, hslot]
  case h_2 u _ =>
    split
    case isFalse hfn => simpa [rowCondition, hlive] using hfn
    case isTrue =>
      split
      case h_1 hclass => simp [rowCondition, hlive, (pciClass_eq_ro_iff c.params u a).1 hclass]
      case h_2 hclass =>
        obtain ⟨hro, rfl⟩ := (pciClass_eq_cmd_iff c.params u a).1 hclass
        simp [rowCondition, hlive, hro]
      case h_3 hclass =>
        obtain rfl := unit_of_pciClass_hbmask hclass
        simp [rowCondition, hlive, hclass]
      case h_4 hclass => simp [rowCondition, hlive, hclass]

/-- Every transaction decodes, in every state, to a row whose condition holds there (R98, R99). -/
theorem rowCondition_decodeTransaction (c : DecodeContext) (t : Transaction) :
    rowCondition c (decodeTransaction c t) = true := by
  unfold decodeTransaction
  split
  case h_1 hlive =>
    cases t with
    | ior p => exact rowCondition_decodeIoRead c p hlive
    | iow p v => exact rowCondition_decodeIoWrite c p v hlive
    | cfgr d fn a => exact rowCondition_decodeCfgRead c d fn a hlive
    | cfgw d fn a v => exact rowCondition_decodeCfgWrite c d fn a v hlive
    | poweron | reset | destroy => simp [rowCondition, hlive]
  case h_2 habsent =>
    split
    case isTrue => simp [rowCondition, habsent]
    case isFalse ht => simp [rowCondition, habsent, ht]
  case h_3 hphase | h_4 hphase => simp [rowCondition, hphase]

/-! Every word is exactly one row or invalid (R98). -/

/-- Settles O3: a word that parses is the row its transaction decodes to, and the round trip makes
any other row of the same word that row; a word that does not parse is no row's word. -/
theorem everyWordIsOneRowOrInvalid : Obligations.EveryWordIsOneRowOrInvalid := by
  refine ⟨fun c w hwf => ?_, fun s t w hphase hindex hhost hlocal hparams => ?_⟩
  · cases hw : parseWord w with
    | none =>
      have hinvalid := (decode_eq_invalidWord_iff c w).2 hw
      refine .inl ⟨hinvalid, ?_⟩
      rintro ⟨i, hi, rfl⟩
      rw [decode_encode c i hwf hi] at hinvalid
      cases hinvalid
    | some t =>
      have hrow := decode_of_parseWord c hw
      refine .inr ⟨decodeTransaction c t, hrow, rowCondition_decodeTransaction c t, ?_⟩
      rintro j hj rfl
      rw [decode_encode c j hwf hj] at hrow
      exact DecodeResult.instr.inj hrow
  · have hcontext : decodeContext s = decodeContext t := by
      simp [decodeContext, hphase, hindex, hhost, hlocal, hparams]
    rw [hcontext]

end Sys2Proof.Machine
end

section
/-! PROOFS. The indexed ports: the primary ports (R121 to R123), the two windows' index and data ports
(R125 to R128, R131 to R134), and ports with two or more claims (R139). -/

namespace Sys2Proof.Machine

/-! The words of port accesses as numbers (R92). -/

/-- Fields laid side by side add up: the upper one stands above the lower one's bits. -/
theorem toNat_append_eq_mul_add {m n : Nat} (x : BitVec m) (y : BitVec n) :
    (x ++ y).toNat = x.toNat * 2 ^ n + y.toNat := by
  rw [BitVec.toNat_append, ← Nat.shiftLeft_add_eq_or_of_lt y.isLt, Nat.shiftLeft_eq]

theorem encodeTransaction_ior_toNat (p : Port) :
    (encodeTransaction (.ior p)).toNat = p.toNat * 2 ^ 8 := by
  change (0b000#3 ++ 0#5 ++ p ++ 0#8).toNat = _
  simp only [toNat_append_eq_mul_add, BitVec.toNat_ofNat]
  omega

theorem encodeTransaction_iow_toNat (p : Port) (v : Byte) :
    (encodeTransaction (.iow p v)).toNat = 0x20000000 + p.toNat * 2 ^ 8 + v.toNat := by
  change (0b001#3 ++ 0#5 ++ p ++ v).toNat = _
  simp only [toNat_append_eq_mul_add, BitVec.toNat_ofNat]
  omega

/-! Ports with two or more claims. -/

/-- A live block decodes an access to a port with two or more claims, read or write, to IO_CONFLICT
(R99, R139). No well-formedness is asked for: the row names no unit. -/
theorem decodeTransaction_of_conflict {c : DecodeContext} {access : IoAccess}
    (hlive : c.phase = .live)
    (hclaims : 2 ≤ (portClaims c.hostBase c.localBase (accessPort access)).length) :
    decodeTransaction c (conflictTransaction access) = .ioConflict access := by
  cases access with
  | read p =>
    have hrow : decodeIoRead c p = .ioConflict (.read p) := decodeIoRead_of_conflict hclaims
    simpa [conflictTransaction, decodeTransaction, hlive] using hrow
  | write p v =>
    have hrow : decodeIoWrite c p v = .ioConflict (.write p v) := decodeIoWrite_of_conflict v hclaims
    simpa [conflictTransaction, decodeTransaction, hlive] using hrow

/-- IO_CONFLICT is refused by name (R139, R63). -/
@[simp] theorem exec_ioConflict (access : IoAccess) (s : State) :
    exec (.ioConflict access) s = .refused .portConflict := rfl

/-- Settles O11: on such a port the delivered access decodes to IO_CONFLICT, which is refused. -/
theorem portConflictIsRefused : Obligations.PortConflictIsRefused := by
  refine ⟨fun s access rest hlive hclaims hinput => ?_, exec_ioConflict⟩
  have hrow : decodeTransaction (decodeContext s) (conflictTransaction access)
      = .ioConflict access := decodeTransaction_of_conflict hlive hclaims
  rw [step_of_transaction hinput, hrow, exec_ioConflict]

/-! The primary ports. -/

/-- A read row completes, appends its answer to the read data, and changes no other field (R72). -/
theorem exec_read_onlyReadData {s : State} {i : Instr} {r : ReadResult}
    (h : readAnswer s i = some r) :
    ∃ t, exec i s = .next t ∧ OnlyReadData s t ∧ t.readData = s.readData ++ [r] :=
  ⟨answer s r, exec_of_readAnswer h, rfl, answer_readData s r⟩

/-- Settles O18: both rows are reads, which answer the index, respectively the byte it selects. -/
theorem primaryReadsAnswerTheStoredByte : Obligations.PrimaryReadsAnswerTheStoredByte := by
  refine ⟨fun _ => ⟨rfl, rfl⟩, fun s => ?index, fun s => ?data⟩
  case index =>
    have hanswer : readAnswer s .iorIsaIndex = some (.byte s.chip.isaIndex) := rfl
    exact exec_read_onlyReadData hanswer
  case data =>
    have hanswer : readAnswer s .iorIsaData = some (.byte (readIsa s s.chip.isaIndex)) := rfl
    exact exec_read_onlyReadData hanswer

/-- Settles O19: the word is that of a write to port 0x22, and the store has no mask. -/
theorem primaryIndexWriteStoresTheByte : Obligations.PrimaryIndexWriteStoresTheByte := by
  intro s v
  have hexec : exec (.iowIsaIndex v) s = .next (writeIsaIndex s v) := rfl
  exact ⟨fun _ => encodeTransaction_iow_toNat Config.isaIndexPort v, hexec⟩

/-! The windows' index and data ports, for either window. -/

/-- A data write stores the raw byte at the selected register of its window and leaves the others. -/
theorem read_writeWindowData (s : State) (w : WindowId) (v x : Byte) :
    RegFile.read (window (writeWindowData s w v) w).reg x
      = if x = (window s w).index then v else RegFile.read (window s w).reg x := by
  rw [writeWindowData, window_withWindow, RegFile.read_write]

/-- A data write replaces its window's registers and nothing else (R128, R134). -/
theorem writeWindowData_frame (s : State) (w : WindowId) (v : Byte) :
    writeWindowData s w v
      = withWindow s w { window s w with reg := (window (writeWindowData s w v) w).reg } := by
  rw [writeWindowData, window_withWindow]

/-- Settles O35: the two reads are read rows, the index write is one store, and the data write is
described by what its window reads afterwards and by its frame. -/
theorem hostWindowPorts : Obligations.HostWindowPorts := by
  intro s p v
  have hior := encodeTransaction_ior_toNat p
  have hiow := encodeTransaction_iow_toNat p v
  have hindexWrite : exec (.iowHostIndex p v) s = .next (writeWindowIndex s .hostBus v) := rfl
  have hdataWrite : exec (.iowHostData p v) s = .next (writeWindowData s .hostBus v) := rfl
  exact ⟨fun _ => ⟨hior, hiow, hior, hiow⟩, exec_of_readAnswer rfl, hindexWrite,
    exec_of_readAnswer rfl, _, hdataWrite, read_writeWindowData s .hostBus v,
    writeWindowData_frame s .hostBus v⟩

/-- Settles O36: as for the host-bus window, whose lemmas hold for either window. -/
theorem localWindowPorts : Obligations.LocalWindowPorts := by
  intro s p v
  have hior := encodeTransaction_ior_toNat p
  have hiow := encodeTransaction_iow_toNat p v
  have hindexWrite : exec (.iowLocalIndex p v) s = .next (writeWindowIndex s .localBus v) := rfl
  have hdataWrite : exec (.iowLocalData p v) s = .next (writeWindowData s .localBus v) := rfl
  exact ⟨fun _ => ⟨hior, hiow, hior, hiow⟩, exec_of_readAnswer rfl, hindexWrite,
    exec_of_readAnswer rfl, _, hdataWrite, read_writeWindowData s .localBus v,
    writeWindowData_frame s .localBus v⟩

end Sys2Proof.Machine
end

section
/-! PROOFS. The primary registers: the mask table (R151), the eight classes of a primary data write
(R153 to R160), recalculation (R184, R185) and the readback law (R161). -/

namespace Sys2Proof.Machine

/-! The words and the rows of a primary data write. -/

/-- Every class of primary data write has the one word of its byte: a write of port 0x23 (R103). -/
theorem encode_toNat_of_dataWrite {p : Params} {i : Instr} {v : Byte}
    (h : transactionOf p i = .iow Config.isaDataPort v) :
    (encode p i).toNat = 0x20002300 + v.toNat := by
  rw [encode, h]
  exact encodeTransaction_iow_toNat Config.isaDataPort v

@[simp] theorem exec_iowIsaDataRo (s : State) (v : Byte) : exec (.iowIsaDataRo v) s = .next s := rfl

@[simp] theorem exec_iowIsaDataModesel (s : State) (v : Byte) :
    exec (.iowIsaDataModesel v) s = .next (writeIsa s 0x10 v) := rfl

/-- Both base-byte rows store their byte and then relocate (R159, R160). -/
theorem exec_baseWrite (s : State) (which : BaseByte) (v : Byte) :
    exec (baseWrite which v) s = relocate (writeIsa s (baseRegister which) v) which v := by
  cases which <;> rfl

@[simp] theorem exec_iowIsaDataShadow (s : State) (v : Byte) :
    exec (.iowIsaDataShadow v) s = .next (recalc (writeSelected s v)) := rfl

/-- The bit that an SMRAM write forwards is the top bit of the byte it has just stored (R157, R189). -/
@[simp] theorem exec_iowIsaDataSmram (s : State) (v : Byte) :
    exec (.iowIsaDataSmram v) s
      = .next (recalc (smramForward
          (writeIsa s s.params.smramReg (v &&& primaryMask s.params s.params.smramReg))
          ((v &&& primaryMask s.params s.params.smramReg).getLsbD 7))) := by
  rw [← smramEnable_writeIsa]
  rfl

@[simp] theorem exec_iowIsaDataMasked (s : State) (v : Byte) :
    exec (.iowIsaDataMasked v) s = .next (writeSelected s v) := rfl

@[simp] theorem exec_iowIsaDataPlain (s : State) (v : Byte) :
    exec (.iowIsaDataPlain v) s = .next (writeIsa s s.chip.isaIndex v) := rfl

/-! Stores. -/

theorem writeIsa_isaByteBecomes (s : State) (a v : Byte) :
    IsaByteBecomes s (writeIsa s a v) a v :=
  fun x => readIsa_writeIsa s a v x

theorem writeIsa_onlyIsaRegisters (s : State) (a v : Byte) :
    OnlyIsaRegisters s (writeIsa s a v) := rfl

/-- Settles O22: each row is one store into the selected register, the masked one through its mask. -/
theorem plainAndMaskedWritesStore : Obligations.PlainAndMaskedWritesStore :=
  ⟨fun _ _ => ⟨encode_toNat_of_dataWrite rfl, encode_toNat_of_dataWrite rfl⟩,
    fun s v => ⟨_, exec_iowIsaDataPlain s v, writeIsa_isaByteBecomes s _ v,
      writeIsa_onlyIsaRegisters s _ v⟩,
    fun s v => ⟨_, exec_iowIsaDataMasked s v, writeIsa_isaByteBecomes s _ _,
      writeIsa_onlyIsaRegisters s _ _⟩⟩

/-! The mask table (R151). -/

/-- The addresses that the mask table names. -/
def maskTableAddrs : List Byte :=
  [0x10, 0x12, 0x13, 0x21, 0x22, 0x25, 0x26, 0x27, 0x28, 0x29, 0x36]

/-- An address that the table does not name takes ISA_MASK. -/
theorem primaryMask_of_not_mem_table (p : Params) {a : Byte} (h : a ∉ maskTableAddrs) :
    primaryMask p a = RegFile.read p.isaMask a := by
  simp only [maskTableAddrs, List.mem_cons, List.not_mem_nil, or_false, not_or] at h
  simp only [primaryMask, h, or_self, if_false]

@[simp] theorem primaryMask_28 (p : Params) : primaryMask p 0x28 = p.shadow28Mask := rfl

/-- A store at a register whose mask is full is the same store through the mask. -/
theorem write_of_fullMask {p : Params} (f : RegFile) {a : Byte} (v : Byte)
    (h : primaryMask p a = 0xFF) :
    RegFile.write f a v = RegFile.write f a (v &&& primaryMask p a) := by
  rw [h]
  exact congrArg _ BitVec.and_allOnes.symm

/-- On the machine's own parameters ISA_MASK narrows nothing (R11). -/
theorem read_params_isaMask (a : Byte) : RegFile.read Config.params.isaMask a = 0xFF :=
  Vector.getElem_replicate a.isLt

/-- Settles O23: the named addresses by evaluation, the others through ISA_MASK. -/
theorem primaryMaskTable : Obligations.PrimaryMaskTable := by
  refine ⟨fun a ha => ?own, rfl, fun p => ⟨rfl, rfl, rfl, rfl, rfl, rfl, rfl, rfl, rfl, rfl, rfl,
    fun _ ha => primaryMask_of_not_mem_table p ha⟩⟩
  case own =>
    by_cases hnamed : a ∈ maskTableAddrs
    · have hwide : a ∈ ([0x10, 0x12, 0x13, 0x25, 0x26, 0x27] : List Byte) := by
        simp only [maskTableAddrs, List.mem_cons, List.not_mem_nil, or_false] at hnamed ha ⊢
        tauto
      simp only [List.mem_cons, List.not_mem_nil, or_false] at hwide
      obtain rfl | rfl | rfl | rfl | rfl | rfl := hwide <;> rfl
    · rw [primaryMask_of_not_mem_table _ hnamed, read_params_isaMask]

/-! The window selector (R33). -/

/-- A window is selected by its own mode value alone. -/
theorem windowSelector_eq_some_iff (mode : Byte) (w : WindowId) :
    windowSelector mode = some w ↔ mode = modeOf w := by
  unfold windowSelector
  split_ifs with hlocal hhost
  · subst hlocal
    cases w <;> decide
  · subst hhost
    cases w <;> decide
  · cases w
    · exact iff_of_false nofun hhost
    · exact iff_of_false nofun hlocal

/-- No window is selected by a value that is neither mode value. -/
theorem windowSelector_eq_none_iff (mode : Byte) :
    windowSelector mode = none ↔ mode ≠ 0x06 ∧ mode ≠ 0x07 := by
  unfold windowSelector
  split_ifs with hlocal hhost
  · simp [hlocal, Config.modeLocal]
  · simp [hhost, Config.modeHost]
  · exact iff_of_true rfl ⟨hlocal, hhost⟩

/-- A mode-select write makes its byte the mode. -/
theorem selector_writeIsa_modeReg (s : State) (v : Byte) :
    selector (writeIsa s 0x10 v) = windowSelector v := by
  have hmode : readIsa (writeIsa s 0x10 v) Config.modeReg = v := readIsa_writeIsa s 0x10 v 0x10
  rw [selector, hmode]

/-- Settles O24: the row is one store, and the selector afterwards is that of the stored byte. -/
theorem modeSelectWriteSetsTheSelector : Obligations.ModeSelectWriteSetsTheSelector := by
  intro s v
  refine ⟨fun _ => encode_toNat_of_dataWrite rfl, _, exec_iowIsaDataModesel s v,
    writeIsa_isaByteBecomes s _ v, writeIsa_onlyIsaRegisters s _ v, ?_⟩
  rw [selector_writeIsa_modeReg]
  exact ⟨windowSelector_eq_some_iff v .localBus, windowSelector_eq_some_iff v .hostBus,
    windowSelector_eq_none_iff v⟩

/-! Base-byte writes (R202). -/

theorem lowByteMask_getLsbD : ∀ i < 16, (0x00FF : Port).getLsbD i = decide (i < 8) := by decide

theorem highByteMask_getLsbD : ∀ i < 16, (0xFF00 : Port).getLsbD i = decide (8 ≤ i) := by decide

/-- The model concatenates the base's two bytes; R202 says the same with masks and shifts. Bit by
bit: below bit 8 the low byte, from bit 8 on the high one. -/
theorem newBase_eq_replacedBase (old : Port) (which : BaseByte) (v : Byte) :
    newBase old which v = replacedBase old which v := by
  refine BitVec.eq_of_getLsbD_eq fun i hi => ?_
  cases which
  case lo =>
    simp only [newBase, replacedBase, BitVec.getLsbD_append, BitVec.getLsbD_extractLsb',
      BitVec.getLsbD_or, BitVec.getLsbD_and, BitVec.getLsbD_setWidth, highByteMask_getLsbD i hi]
    by_cases hlow : i < 8
    · simp [hlow, hi, Nat.not_le.2 hlow]
    · have hhigh : 8 ≤ i := Nat.not_lt.1 hlow
      have hoffset : i - 8 < 8 := by omega
      simp [hlow, hhigh, hoffset]
  case hi =>
    have hoffset : i - 8 < 16 := by omega
    simp only [newBase, replacedBase, BitVec.getLsbD_append, BitVec.getLsbD_extractLsb',
      BitVec.getLsbD_or, BitVec.getLsbD_and, BitVec.getLsbD_setWidth, BitVec.getLsbD_shiftLeft,
      lowByteMask_getLsbD i hi]
    by_cases hlow : i < 8
    · simp [hlow]
    · simp [hlow, hi, hoffset]
/-- With no window selected a relocation does nothing (R206). -/
theorem relocate_of_none {s : State} (which : BaseByte) (v : Byte) (hsel : selector s = none) :
    relocate s which v = .next s := by
  simp [relocate, hsel]

/-- A selected window moves where its new range fits (R202). -/
theorem relocate_of_fits {s : State} {which : BaseByte} {v : Byte} {w : WindowId}
    (hsel : selector s = some w) (hfit : (newBase (window s w).base which v).toNat ≤ 0xFFFB) :
    relocate s which v = .next (moveWindow s w (newBase (window s w).base which v)) := by
  obtain ⟨hnone, -⟩ | ⟨x, hx, ⟨hwrap, -⟩ | ⟨-, hmove⟩⟩ := relocate_cases s which v
  · cases hsel.symm.trans hnone
  all_goals obtain rfl : w = x := Option.some.inj (hsel.symm.trans hx)
  · exact absurd hfit (Nat.not_le.2 hwrap)
  · exact hmove

/-- The relocation of a selected window past port 0xFFFF is refused (R202, R254). -/
theorem relocate_of_wraps {s : State} {which : BaseByte} {v : Byte} {w : WindowId}
    (hsel : selector s = some w) (hwrap : 0xFFFB < (newBase (window s w).base which v).toNat) :
    relocate s which v = .refused .windowWrap := by
  obtain ⟨hnone, -⟩ | ⟨x, hx, ⟨-, hrefused⟩ | ⟨hfit, -⟩⟩ := relocate_cases s which v
  · cases hsel.symm.trans hnone
  all_goals obtain rfl : w = x := Option.some.inj (hsel.symm.trans hx)
  · exact hrefused
  · exact absurd hfit (Nat.not_le.2 hwrap)

/-- A base register is not the mode select. -/
theorem selector_writeIsa_baseRegister (s : State) (which : BaseByte) (v : Byte) :
    selector (writeIsa s (baseRegister which) v) = windowSelector (readIsa s 0x10) := by
  have hne : baseRegister which ≠ Config.modeReg := by cases which <;> decide
  exact selector_writeIsa s _ v hne

/-- A primary store leaves the windows. -/
@[simp] theorem window_writeIsa (s : State) (a v : Byte) (w : WindowId) :
    window (writeIsa s a v) w = window s w := by
  cases w <;> rfl

/-- A relocation's calls, with each condition in R200's sense: a zero base is not mapped. -/
theorem relocateEffects_eq (w : WindowId) (old new : Port) :
    relocateEffects w old new
      = (if old = 0 then [] else [.portUnreg old 5 w.owner])
        ++ (if new = 0 then [] else [.portReg new 5 w.owner]) := by
  simp only [relocateEffects, ite_not, Config.winSpan, ne_eq]

/-- A primary store followed by a window's move: the store shows in the register file alone. -/
theorem moveWindow_writeIsa_windowMoves (s : State) (a v : Byte) (w : WindowId) (new : Port) :
    WindowMoves s (moveWindow (writeIsa s a v) w new) w new := by
  have htrace := moveWindow_trace (writeIsa s a v) w new
  rw [window_writeIsa, relocateEffects_eq, ← List.append_assoc] at htrace
  cases w <;> exact ⟨rfl, rfl, htrace, rfl⟩

/-- A window's move leaves the primary registers: the byte stored before it stays. -/
theorem moveWindow_writeIsa_isaByteBecomes (s : State) (a v : Byte) (w : WindowId) (new : Port) :
    IsaByteBecomes s (moveWindow (writeIsa s a v) w new) a v := by
  intro x
  rw [readIsa, moveWindow_isaRegisters]
  exact readIsa_writeIsa s a v x

/-- Settles O25: the byte is stored, and the relocation that follows reads the old base of the window
that register 0x10 selects; its three outcomes are the three clauses. -/
theorem baseByteWritesMoveTheSelectedWindow : Obligations.BaseByteWritesMoveTheSelectedWindow := by
  intro s which v
  have hbase (w : WindowId) :
      newBase (window (writeIsa s (baseRegister which) v) w).base which v
        = replacedBase (window s w).base which v := by
    rw [window_writeIsa, newBase_eq_replacedBase]
  have hselected {w : WindowId} (hmode : readIsa s 0x10 = modeOf w) :
      selector (writeIsa s (baseRegister which) v) = some w := by
    rw [selector_writeIsa_baseRegister, windowSelector_eq_some_iff, hmode]
  refine ⟨fun p => ?word, fun hlocal hhost => ?unselected, fun w hmode hfit => ?moved,
    fun w hmode hwrap => ?refused⟩
  case word => cases which <;> exact encode_toNat_of_dataWrite rfl
  case unselected =>
    have hnone : selector (writeIsa s (baseRegister which) v) = none := by
      rw [selector_writeIsa_baseRegister, windowSelector_eq_none_iff]
      exact ⟨hlocal, hhost⟩
    rw [exec_baseWrite, relocate_of_none which v hnone]
    exact ⟨_, rfl, writeIsa_isaByteBecomes s _ v, writeIsa_onlyIsaRegisters s _ v⟩
  case moved =>
    rw [← hbase] at hfit
    rw [exec_baseWrite, relocate_of_fits (hselected hmode) hfit, hbase]
    exact ⟨_, rfl, moveWindow_writeIsa_isaByteBecomes s _ v w _,
      moveWindow_writeIsa_windowMoves s _ v w _⟩
  case refused =>
    rw [← hbase] at hwrap
    rw [exec_baseWrite, relocate_of_wraps (hselected hmode) hwrap]

/-! Recalculation (R180 to R185). -/

/-- The region table of R181, row by row, is the layout of R36: the control byte, the two bit
positions, the base and the size as formulas in the region's number. -/
theorem regionRows_layout :
    ∀ r ∈ regionRows,
      r.ctrl = BitVec.ofNat 8 (0x25 + r.k / 4) ∧ r.weBit = 2 * (r.k % 4)
      ∧ r.reBit = 2 * (r.k % 4) + 1 ∧ r.base = BitVec.ofNat 20 (0xC0000 + 0x4000 * r.k)
      ∧ r.size = (if r.k.val = 12 then 0x10000 else 0x4000) := by
  decide

/-- The table has one row for each region, in ascending order. -/
theorem regionRows_numbers : regionRows.map (fun r => r.k.val) = List.range 13 := by decide

theorem exists_regionRow (k : Fin 13) : ∃ r ∈ regionRows, r.k = k := by
  revert k
  decide

/-- A row's control byte is the primary register that the row names. -/
theorem controlByte_shadowBytes (s : State) {r : RegionRow} (h : r ∈ regionRows) :
    controlByte (shadowBytes s.chip.isaRegisters) r = readIsa s r.ctrl := by
  have hctrl : ∀ r ∈ regionRows, r.ctrl = 0x25 ∨ r.ctrl = 0x26 ∨ r.ctrl = 0x27 ∨ r.ctrl = 0x28 := by
    decide
  obtain hc | hc | hc | hc := hctrl r h <;> simp [controlByte, shadowBytes, readIsa, hc]

theorem writeEnable_shadowBytes (s : State) {r : RegionRow} (h : r ∈ regionRows) :
    writeEnable (shadowBytes s.chip.isaRegisters) r = regionWrites s r.k := by
  obtain ⟨hctrl, hwe, -, -, -⟩ := regionRows_layout r h
  rw [writeEnable, controlByte_shadowBytes s h, hctrl, hwe, regionWrites]

theorem readEnable_shadowBytes (s : State) {r : RegionRow} (h : r ∈ regionRows) :
    readEnable (shadowBytes s.chip.isaRegisters) r = regionReads s r.k := by
  obtain ⟨hctrl, -, hre, -, -⟩ := regionRows_layout r h
  rw [readEnable, controlByte_shadowBytes s h, hctrl, hre, regionReads]

theorem readMode_shadowBytes (s : State) {r : RegionRow} (h : r ∈ regionRows) :
    readMode (shadowBytes s.chip.isaRegisters) r = regionRead s r.k := by
  rw [readMode, readEnable_shadowBytes s h, regionRead]

theorem writeMode_shadowBytes (s : State) {r : RegionRow} (h : r ∈ regionRows) :
    writeMode (shadowBytes s.chip.isaRegisters) r = regionWrite s r.k := by
  rw [writeMode, writeEnable_shadowBytes s h, regionWrite]

theorem regionEffect_shadowBytes (s : State) {r : RegionRow} (h : r ∈ regionRows) :
    regionEffect (shadowBytes s.chip.isaRegisters) r = regionCall s r.k := by
  obtain ⟨-, -, -, hbase, hsize⟩ := regionRows_layout r h
  rw [regionEffect, readMode_shadowBytes s h, writeMode_shadowBytes s h, hbase, hsize, regionCall]

/-- Every region's state after a recalculation, by its number (R183, R36). -/
theorem regionStates_shadowBytes (s : State) (k : Fin 13) :
    (regionStates (shadowBytes s.chip.isaRegisters))[k]
      = .applied (regionRead s k) (regionWrite s k) := by
  obtain ⟨r, hr, rfl⟩ := exists_regionRow k
  rw [regionStates_row _ r hr, readMode_shadowBytes s hr, writeMode_shadowBytes s hr]

/-- The calls of a recalculation, by the regions' numbers (R184, R36). -/
theorem recalcEffects_shadowBytes (s : State) :
    recalcEffects (shadowBytes s.chip.isaRegisters)
      = (List.range 13).map (regionCall s) ++ [.invalidate] := by
  rw [recalcEffects, ← regionRows_numbers, List.map_map,
    List.map_congr_left fun _ hr => regionEffect_shadowBytes s hr]
  rfl

/-- Some row of the table has a bit exactly where some region has it. -/
theorem regionRows_any_iff {enable : RegionRow → Bool} {bit : Nat → Bool}
    (h : ∀ r ∈ regionRows, enable r = bit r.k) :
    regionRows.any enable = true ↔ ∃ k : Fin 13, bit k = true := by
  rw [List.any_eq_true]
  constructor
  · rintro ⟨r, hr, henable⟩
    exact ⟨r.k, h r hr ▸ henable⟩
  · rintro ⟨k, hbit⟩
    obtain ⟨r, hr, rfl⟩ := exists_regionRow k
    exact ⟨r, hr, (h r hr).trans hbit⟩

/-- RECALC, run on a state whose trace is that of `s` and the calls `first`, is what R184 and R185
say, from the shadow-control bytes it meets. -/
theorem recalc_recalculated {s m : State} {first : List Effect} (htrace : m.trace = s.trace ++ first) :
    Recalculated s (recalc m) first := by
  refine ⟨regionStates_shadowBytes m, regionRows_any_iff fun _ => writeEnable_shadowBytes m,
    regionRows_any_iff fun _ => readEnable_shadowBytes m, ?_⟩
  rw [recalc_trace, htrace, recalcEffects_shadowBytes, ← List.append_assoc]
  rfl

/-- Settles O27: the three addresses have the full mask, so the selected register takes the byte
itself, and RECALC follows. -/
theorem shadowWriteRecalculates : Obligations.ShadowWriteRecalculates := by
  refine ⟨fun _ _ => encode_toNat_of_dataWrite rfl, fun s v hindex => ?_⟩
  have hmask : primaryMask s.params s.chip.isaIndex = 0xFF := by
    obtain h | h | h := hindex <;> rw [h] <;> rfl
  have hstore : writeSelected s v = writeIsa s s.chip.isaIndex v := by
    rw [writeSelected, writeIsa, ← write_of_fullMask _ v hmask, writeIsa]
  rw [exec_iowIsaDataShadow, hstore]
  have htrace : (writeIsa s s.chip.isaIndex v).trace = s.trace ++ [] := (List.append_nil _).symm
  exact ⟨_, rfl, writeIsa_isaByteBecomes s _ v, recalc_recalculated htrace, rfl, rfl⟩

/-- Settles O57: at 0x28 the register's mask is SHADOW28_MASK; the store and the forward come before
RECALC, which keeps the forwarded status. -/
theorem smramWriteOfRegister28 : Obligations.SmramWriteOfRegister28 := by
  intro s v hreg
  refine ⟨fun _ => encode_toNat_of_dataWrite rfl, ?_⟩
  rw [exec_iowIsaDataSmram, hreg, primaryMask_28]
  exact ⟨_, rfl, writeIsa_isaByteBecomes s _ _, recalc_recalculated rfl, rfl, rfl⟩

/-! The readback law (R161). -/

/-- What R101 asks of a register of each write class, as far as the readback needs it: the shadow and
the masked class store through the mask whatever the register is. -/
def classCondition (p : Params) (a : Byte) : PrimaryClass → Prop
  | .ro => a ∈ p.isaRo
  | .modesel => a ∉ p.isaRo ∧ a = Config.modeReg
  | .baselo => a ∉ p.isaRo ∧ a = Config.baseLoReg
  | .basehi => a ∉ p.isaRo ∧ a = Config.baseHiReg
  | .shadow => a ∉ p.isaRo
  | .smram => a ∉ p.isaRo ∧ a = p.smramReg
  | .masked => a ∉ p.isaRo
  | .plain => a ∉ p.isaRo ∧ primaryMask p a = 0xFF

theorem primaryClass_condition (p : Params) (a : Byte) : classCondition p a (primaryClass p a) := by
  unfold primaryClass
  split_ifs with hro hmode hlo hhi hshadow hsmram hmask
  · exact List.contains_iff_mem.1 hro
  all_goals have hmem : a ∉ p.isaRo := fun h => hro (List.contains_iff_mem.2 h)
  · exact ⟨hmem, hmode⟩
  · exact ⟨hmem, hlo⟩
  · exact ⟨hmem, hhi⟩
  · exact hmem
  · exact ⟨hmem, hsmram⟩
  · exact hmem
  · exact ⟨hmem, not_not.1 hmask⟩

/-- A completed relocation changes neither the index nor the primary registers (R202). -/
theorem relocate_next_primary {s t : State} {which : BaseByte} {v : Byte}
    (h : relocate s which v = .next t) :
    t.chip.isaIndex = s.chip.isaIndex ∧ t.chip.isaRegisters = s.chip.isaRegisters := by
  obtain ⟨-, hstay⟩ | ⟨w, -, ⟨-, hrefused⟩ | ⟨-, hmove⟩⟩ := relocate_cases s which v
  · cases h.symm.trans hstay
    exact ⟨rfl, rfl⟩
  · cases h.symm.trans hrefused
  · cases h.symm.trans hmove
    exact ⟨moveWindow_isaIndex s w _, moveWindow_isaRegisters s w _⟩

/-- A completed base-byte write stores its byte, whose register has a full mask (R159, R160). -/
theorem baseWrite_next_primary {s t : State} {which : BaseByte} {v : Byte}
    (hindex : s.chip.isaIndex = baseRegister which)
    (h : exec (baseWrite which v) s = .next t) :
    t.chip.isaIndex = s.chip.isaIndex
      ∧ t.chip.isaRegisters = RegFile.write s.chip.isaRegisters s.chip.isaIndex
          (v &&& primaryMask s.params s.chip.isaIndex) := by
  have hmask : primaryMask s.params (baseRegister which) = 0xFF := by cases which <;> rfl
  rw [exec_baseWrite, ← hindex] at h
  rw [← write_of_fullMask _ v (hindex ▸ hmask)]
  exact relocate_next_primary h

/-- After a completed primary data write, of whatever class, the selected register alone has changed,
to the byte through its mask; a read-only one has not (R150, R152). -/
theorem dataWrite_next_primary {s t : State} {v : Byte}
    (h : exec (decodePrimaryWrite (decodeContext s) v) s = .next t) :
    t.chip.isaIndex = s.chip.isaIndex
      ∧ t.chip.isaRegisters =
        if s.chip.isaIndex ∈ s.params.isaRo then s.chip.isaRegisters
        else RegFile.write s.chip.isaRegisters s.chip.isaIndex
          (v &&& primaryMask s.params s.chip.isaIndex) := by
  have hcond := primaryClass_condition s.params s.chip.isaIndex
  unfold decodePrimaryWrite at h
  rw [decodeContext_params, decodeContext_isaIndex] at h
  generalize primaryClass s.params s.chip.isaIndex = k at h hcond
  cases k with
  | ro =>
    cases h
    exact ⟨rfl, (if_pos hcond).symm⟩
  | modesel =>
    obtain ⟨hro, hindex⟩ := hcond
    cases h
    rw [if_neg hro, hindex, ← write_of_fullMask _ v rfl]
    exact ⟨hindex, rfl⟩
  | baselo =>
    obtain ⟨hro, hindex⟩ := hcond
    rw [if_neg hro]
    exact baseWrite_next_primary (which := .lo) hindex h
  | basehi =>
    obtain ⟨hro, hindex⟩ := hcond
    rw [if_neg hro]
    exact baseWrite_next_primary (which := .hi) hindex h
  | shadow | masked =>
    cases h
    exact ⟨rfl, (if_neg hcond).symm⟩
  | smram =>
    obtain ⟨hro, hindex⟩ := hcond
    cases h
    rw [if_neg hro, hindex]
    exact ⟨hindex, rfl⟩
  | plain =>
    obtain ⟨hro, hmask⟩ := hcond
    cases h
    rw [if_neg hro, ← write_of_fullMask _ v hmask]
    exact ⟨rfl, rfl⟩

/-- Settles O33: the data port answers the byte that the write left in the selected register. -/
theorem primaryReadback : Obligations.PrimaryReadback := by
  intro s t v h
  obtain ⟨hsame, hregs⟩ := dataWrite_next_primary h
  have hread : readAnswer t .iorIsaData = some (.byte (readIsa t s.chip.isaIndex)) := by
    rw [← hsame]
    rfl
  refine ⟨hsame, _, exec_of_readAnswer hread, ?_⟩
  rw [answer_readData, readIsa, hregs]
  split
  · rfl
  · rw [RegFile.read_write_same]

end Sys2Proof.Machine
end

section
/-! PROOFS. What a recalculation reads (R180, R187), and the rows that recalculate nothing (R190). -/

namespace Sys2Proof.Machine

/-! What a recalculation reads. -/

/-- The four shadow-control bytes are the registers 0x25 to 0x28 and nothing else (R180). -/
theorem shadowBytes_eq_of_readIsa {s t : State}
    (h25 : readIsa s 0x25 = readIsa t 0x25) (h26 : readIsa s 0x26 = readIsa t 0x26)
    (h27 : readIsa s 0x27 = readIsa t 0x27) (h28 : readIsa s 0x28 = readIsa t 0x28) :
    shadowBytes s.chip.isaRegisters = shadowBytes t.chip.isaRegisters :=
  (ShadowBytes.mk.injEq ..).mpr ⟨h25, h26, h27, h28⟩

/-- Settles O29: all that a recalculation writes and calls is a function of the four bytes. -/
theorem recalculationReadsFourBytesOnly : Obligations.RecalculationReadsFourBytesOnly := by
  intro s t h25 h26 h27 h28
  have hbytes := shadowBytes_eq_of_readIsa h25 h26 h27 h28
  refine ⟨congrArg regionStates hbytes, congrArg shadowWriteFlag hbytes,
    congrArg shadowReadFlag hbytes, recalcEffects (shadowBytes s.chip.isaRegisters),
    recalc_trace s, ?_⟩
  rw [hbytes, recalc_trace]

/-! The calls that register and release are none of a recalculation's. -/

theorem relocateEffects_no_shadowCall (w : WindowId) (old new : Port) :
    ∀ e ∈ relocateEffects w old new, isShadowCall e = false := by
  unfold relocateEffects
  split_ifs <;> simp [isShadowCall]

theorem powerOnEffects_no_shadowCall (p : Params) :
    ∀ e ∈ powerOnEffects p, isShadowCall e = false := by
  simp [powerOnEffects, isShadowCall]

theorem teardownEffects_no_shadowCall (p : Params) (hostBase localBase : Port) :
    ∀ e ∈ teardownEffects p hostBase localBase, isShadowCall e = false := by
  unfold teardownEffects
  split_ifs <;> simp [isShadowCall]

/-! The rows that recalculate nothing, first those that make no call at all. -/

/-- The derived state of R28 to R30 in `t` is that of `s`. -/
def SameDerivedState (s t : State) : Prop :=
  t.region = s.region ∧ t.smramVisible = s.smramVisible
  ∧ t.shadowWriteAny = s.shadowWriteAny ∧ t.shadowReadAny = s.shadowReadAny

/-- The calls from `s` to `t` are none of a recalculation or an SMRAM forward. -/
def AddsNoShadowCall (s t : State) : Prop :=
  ∃ calls, t.trace = s.trace ++ calls ∧ ∀ e ∈ calls, isShadowCall e = false

theorem addsNoShadowCall_of_trace_eq {s t : State} (h : t.trace = s.trace) : AddsNoShadowCall s t :=
  ⟨[], by rw [h, List.append_nil], fun _ he => absurd he List.not_mem_nil⟩

/-- A row that neither moves a window nor recalculates calls no collaborator and keeps the derived
state: it answers, ignores a write, stores bytes of the record, or clears the primary registers. -/
theorem exec_next_makes_no_call {s t : State} {i : Instr} (h : exec i s = .next t)
    (hmoves : movesWindows i = false) (hrecalc : recalculates s.params i = false) :
    t.trace = s.trace ∧ SameDerivedState s t := by
  cases i
  case iowIsaDataBaselo | iowIsaDataBasehi | poweron | destroy => cases hmoves
  case iowIsaDataShadow | iowIsaDataSmram => cases hrecalc
  case ioConflict | notLive => cases h
  case reset =>
    obtain ⟨hcalls, -⟩ | ⟨-, hclear⟩ := systemReset_cases s
    · cases hcalls.symm.trans hrecalc
    · obtain rfl : systemReset s = t := Host.Outcome.next.inj h
      rw [hclear]
      exact ⟨rfl, rfl, rfl, rfl, rfl⟩
  -- the reads, the ignored writes and the stores
  all_goals
    cases h
    exact ⟨rfl, rfl, rfl, rfl, rfl⟩

/-- The rows of R200: either base-byte write, construction and teardown. -/
theorem eq_of_movesWindows {i : Instr} (h : movesWindows i = true) :
    (∃ which v, i = baseWrite which v) ∨ i = .poweron ∨ i = .destroy := by
  cases i
  case iowIsaDataBaselo v => exact .inl ⟨.lo, v, rfl⟩
  case iowIsaDataBasehi v => exact .inl ⟨.hi, v, rfl⟩
  case poweron => exact .inr (.inl rfl)
  case destroy => exact .inr (.inr rfl)
  all_goals cases h

/-- A completed base-byte write makes at most the calls of one relocation (R200, R206). -/
theorem exec_baseWrite_next_shadow {s t : State} {which : BaseByte} {v : Byte}
    (h : exec (baseWrite which v) s = .next t) : AddsNoShadowCall s t ∧ SameDerivedState s t := by
  rw [exec_baseWrite] at h
  obtain ⟨-, hstay⟩ | ⟨w, -, ⟨-, hrefused⟩ | ⟨-, hmove⟩⟩ :=
    relocate_cases (writeIsa s (baseRegister which) v) which v
  · cases h.symm.trans hstay
    exact ⟨addsNoShadowCall_of_trace_eq rfl, rfl, rfl, rfl, rfl⟩
  · cases h.symm.trans hrefused
  · cases h.symm.trans hmove
    exact ⟨⟨_, moveWindow_trace _ w _, relocateEffects_no_shadowCall w _ _⟩,
      moveWindow_region _ w _, moveWindow_smramVisible _ w _,
      moveWindow_shadowWriteAny _ w _, moveWindow_shadowReadAny _ w _⟩

/-- A construction, successful or not, forwards no SMRAM and recalculates nothing (R190, R270). -/
theorem exec_poweron_next_shadow {s t : State} (h : exec .poweron s = .next t) :
    AddsNoShadowCall s t := by
  change execPoweron s = .next t at h
  obtain ⟨-, hrefused⟩ | ⟨-, -, hlive⟩ | ⟨-, -, hfailed⟩ := execPoweron_cases s
  · cases h.symm.trans hrefused
  · cases h.symm.trans hlive
    exact ⟨_, rfl, powerOnEffects_no_shadowCall s.params⟩
  · cases h.symm.trans hfailed
    exact addsNoShadowCall_of_trace_eq rfl

/-- A teardown releases what was registered and keeps the derived state (R273). -/
theorem exec_destroy_next_shadow {s t : State} (h : exec .destroy s = .next t) :
    AddsNoShadowCall s t ∧ SameDerivedState s t := by
  cases h
  exact ⟨⟨_, rfl, teardownEffects_no_shadowCall _ _ _⟩, rfl, rfl, rfl, rfl⟩

/-- Settles O31: a row that does not recalculate makes no call, or is one of the rows of R200, whose
calls register and release only. -/
theorem nothingElseRecalculates : Obligations.NothingElseRecalculates := by
  intro s t i h hrecalc
  cases hmoves : movesWindows i with
  | false =>
    obtain ⟨htrace, hderived⟩ := exec_next_makes_no_call h hmoves hrecalc
    exact ⟨addsNoShadowCall_of_trace_eq htrace, fun _ => hderived⟩
  | true =>
    obtain ⟨which, v, rfl⟩ | rfl | rfl := eq_of_movesWindows hmoves
    · obtain ⟨hcalls, hderived⟩ := exec_baseWrite_next_shadow h
      exact ⟨hcalls, fun _ => hderived⟩
    · exact ⟨exec_poweron_next_shadow h, fun hne => absurd rfl hne⟩
    · obtain ⟨hcalls, hderived⟩ := exec_destroy_next_shadow h
      exact ⟨hcalls, fun _ => hderived⟩

end Sys2Proof.Machine
end

section
/-! PROOFS. The rows that move no window: the bases they keep, and the port dispatcher's table, which
their calls do not reach (R200, R209, R210). -/

namespace Sys2Proof.Machine

/-! The calls of a recalculation and of an SMRAM forward do not reach the port dispatcher. -/

theorem portTableStep_of_shadowCall (table : List PortRange) {e : Effect}
    (h : isShadowCall e = true) : portTableStep table e = table := by
  cases e
  case regionSet | smramSet | invalidate => rfl
  all_goals cases h

theorem foldl_portTableStep_of_shadowCalls (table : List PortRange) {calls : List Effect}
    (h : ∀ e ∈ calls, isShadowCall e = true) : calls.foldl portTableStep table = table := by
  induction calls with
  | nil => rfl
  | cons e rest ih =>
    rw [List.forall_mem_cons] at h
    obtain ⟨hfirst, hrest⟩ := h
    rw [List.foldl_cons, portTableStep_of_shadowCall table hfirst]
    exact ih hrest

/-- The calls from `s` to `t` are those of recalculations and SMRAM forwards, if any. -/
def AddsOnlyShadowCalls (s t : State) : Prop :=
  ∃ calls, t.trace = s.trace ++ calls ∧ ∀ e ∈ calls, isShadowCall e = true

theorem addsOnlyShadowCalls_of_trace_eq {s t : State} (h : t.trace = s.trace) :
    AddsOnlyShadowCalls s t :=
  ⟨[], by rw [h, List.append_nil], fun _ he => absurd he List.not_mem_nil⟩

/-- Further shadow calls after such calls are again such calls. -/
theorem AddsOnlyShadowCalls.append {s m t : State} {more : List Effect}
    (h : AddsOnlyShadowCalls s m) (htrace : t.trace = m.trace ++ more)
    (hmore : ∀ e ∈ more, isShadowCall e = true) : AddsOnlyShadowCalls s t := by
  obtain ⟨calls, hm, hcalls⟩ := h
  refine ⟨calls ++ more, by rw [htrace, hm, List.append_assoc], ?_⟩
  exact List.forall_mem_append.2 ⟨hcalls, hmore⟩

theorem recalcEffects_shadowCalls (b : ShadowBytes) :
    ∀ e ∈ recalcEffects b, isShadowCall e = true :=
  List.forall_mem_append.2 ⟨List.forall_mem_map.2 fun _ _ => rfl, List.forall_mem_singleton.2 rfl⟩

theorem addsOnlyShadowCalls_recalc {s m : State} (h : AddsOnlyShadowCalls s m) :
    AddsOnlyShadowCalls s (recalc m) :=
  h.append (recalc_trace m) (recalcEffects_shadowCalls _)

theorem addsOnlyShadowCalls_smramForward {s m : State} (en : Bool) (h : AddsOnlyShadowCalls s m) :
    AddsOnlyShadowCalls s (smramForward m en) :=
  h.append (smramForward_trace m en) (List.forall_mem_singleton.2 rfl)

/-- The port dispatcher's table is the same after such calls, for every owner. -/
theorem heldBy_of_addsOnlyShadowCalls {s t : State} (o : Owner) (h : AddsOnlyShadowCalls s t) :
    heldBy o t.trace = heldBy o s.trace := by
  obtain ⟨calls, htrace, hcalls⟩ := h
  rw [heldBy, htrace, portTable_append, foldl_portTableStep_of_shadowCalls _ hcalls, heldBy]

/-- A reset makes at most an SMRAM forward's and a recalculation's calls (R272). -/
theorem systemReset_addsOnlyShadowCalls (s : State) : AddsOnlyShadowCalls s (systemReset s) := by
  have hclear : AddsOnlyShadowCalls s (clearRegisters s) := addsOnlyShadowCalls_of_trace_eq rfl
  obtain ⟨-, hreset⟩ | ⟨-, hreset⟩ := systemReset_cases s
  · rw [hreset]
    exact addsOnlyShadowCalls_recalc (addsOnlyShadowCalls_smramForward false hclear)
  · rw [hreset]
    exact hclear

/-- A row that moves no window makes no call, or those of R190's rows (R200). -/
theorem exec_next_addsOnlyShadowCalls {s t : State} {i : Instr} (h : exec i s = .next t)
    (hmoves : movesWindows i = false) : AddsOnlyShadowCalls s t := by
  cases hrecalc : recalculates s.params i with
  | false =>
    obtain ⟨htrace, -⟩ := exec_next_makes_no_call h hmoves hrecalc
    exact addsOnlyShadowCalls_of_trace_eq htrace
  | true =>
    cases i
    case iowIsaDataShadow =>
      cases h
      exact addsOnlyShadowCalls_recalc (addsOnlyShadowCalls_of_trace_eq rfl)
    case iowIsaDataSmram =>
      cases h
      exact addsOnlyShadowCalls_recalc
        (addsOnlyShadowCalls_smramForward _ (addsOnlyShadowCalls_of_trace_eq rfl))
    case reset =>
      cases h
      exact systemReset_addsOnlyShadowCalls s
    all_goals cases hrecalc

/-! The window bases. -/

/-- Both windows of `t` are mapped where those of `s` are. -/
def SameBases (s t : State) : Prop :=
  t.chip.hostWin.base = s.chip.hostWin.base ∧ t.chip.localWin.base = s.chip.localWin.base

/-- Whatever the record's other fields, equal windows have equal bases. -/
theorem sameBases_of_windows_eq {s t : State} (hhost : t.chip.hostWin = s.chip.hostWin)
    (hlocal : t.chip.localWin = s.chip.localWin) : SameBases s t :=
  ⟨congrArg Window.base hhost, congrArg Window.base hlocal⟩

/-- A window replaced by one at its own base stays where it is, and so does the other. -/
theorem withWindow_sameBases (s : State) (w : WindowId) {x : Window}
    (h : x.base = (window s w).base) : SameBases s (withWindow s w x) := by
  cases w with
  | hostBus => exact ⟨h, rfl⟩
  | localBus => exact ⟨rfl, h⟩

theorem writeWindowIndex_sameBases (s : State) (w : WindowId) (v : Byte) :
    SameBases s (writeWindowIndex s w v) :=
  withWindow_sameBases s w rfl

theorem writeWindowData_sameBases (s : State) (w : WindowId) (v : Byte) :
    SameBases s (writeWindowData s w v) :=
  withWindow_sameBases s w rfl

/-- A reset clears the primary registers alone of the record (R272). -/
theorem systemReset_sameBases (s : State) : SameBases s (systemReset s) := by
  obtain ⟨-, hreset⟩ | ⟨-, hreset⟩ := systemReset_cases s
  all_goals
    rw [hreset]
    exact sameBases_of_windows_eq rfl rfl

/-- A row outside R200's keeps both bases: a window's own ports write its index or its registers, and
no other such row writes a window (R209, R210). -/
theorem exec_next_sameBases {s t : State} {i : Instr} (h : exec i s = .next t)
    (hmoves : movesWindows i = false) : SameBases s t := by
  cases i
  case iowIsaDataBaselo | iowIsaDataBasehi | poweron | destroy => cases hmoves
  case ioConflict | notLive => cases h
  case iowHostIndex | iowLocalIndex =>
    cases h
    exact writeWindowIndex_sameBases s _ _
  case iowHostData | iowLocalData =>
    cases h
    exact writeWindowData_sameBases s _ _
  case reset =>
    cases h
    exact systemReset_sameBases s
  -- the reads, the ignored writes, and the stores to the primary window and the PCI units
  all_goals
    cases h
    exact sameBases_of_windows_eq rfl rfl

/-- Settles O32: such a row writes no base, and its calls do not reach the port dispatcher. -/
theorem nothingElseMovesAWindow : Obligations.NothingElseMovesAWindow := by
  intro s t i h hmoves
  obtain ⟨hhost, hlocal⟩ := exec_next_sameBases h hmoves
  have hcalls := exec_next_addsOnlyShadowCalls h hmoves
  exact ⟨hhost, hlocal, fun o => heldBy_of_addsOnlyShadowCalls o hcalls⟩

end Sys2Proof.Machine
end

section
/-! PROOFS. The PCI configuration units (R229 to R239): the words of configuration transactions, what a
configuration write stores, and the readback law. -/

namespace Sys2Proof.Machine

/-! The words of configuration transactions as numbers (R93). -/

theorem encodeTransaction_cfgr_toNat (d : Slot) (fn : FnIndex) (a : Byte) :
    (encodeTransaction (.cfgr d fn a)).toNat
      = 0x40000000 + d.toNat * 2 ^ 24 + fn.toNat * 2 ^ 21 + a.toNat * 2 ^ 8 := by
  change (0b010#3 ++ d ++ fn ++ 0#5 ++ a ++ 0#8).toNat = _
  simp only [toNat_append_eq_mul_add, BitVec.toNat_ofNat]
  omega

theorem encodeTransaction_cfgw_toNat (d : Slot) (fn : FnIndex) (a v : Byte) :
    (encodeTransaction (.cfgw d fn a v)).toNat
      = 0x60000000 + d.toNat * 2 ^ 24 + fn.toNat * 2 ^ 21 + a.toNat * 2 ^ 8 + v.toNat := by
  change (0b011#3 ++ d ++ fn ++ 0#5 ++ a ++ v).toNat = _
  simp only [toNat_append_eq_mul_add, BitVec.toNat_ofNat]
  omega

/-! At function index 0 the function field adds nothing to a word. -/

theorem encodeTransaction_cfgr_fn0_toNat (d : Slot) (a : Byte) :
    (encodeTransaction (.cfgr d 0 a)).toNat
      = 0x40000000 + d.toNat * 2 ^ 24 + a.toNat * 2 ^ 8 := by
  simpa using encodeTransaction_cfgr_toNat d 0 a

theorem encodeTransaction_cfgw_fn0_toNat (d : Slot) (a v : Byte) :
    (encodeTransaction (.cfgw d 0 a v)).toNat
      = 0x60000000 + d.toNat * 2 ^ 24 + a.toNat * 2 ^ 8 + v.toNat := by
  simpa using encodeTransaction_cfgw_toNat d 0 a v

/-! Reads. -/

/-- Settles O37: the row is a read, which answers the stored byte. -/
theorem pciReadAnswersTheStoredByte : Obligations.PciReadAnswersTheStoredByte := by
  intro s u a
  have hanswer : readAnswer s (.cfgrFn0 u a) = some (.byte (readPci s u a)) := rfl
  exact ⟨fun p => encodeTransaction_cfgr_fn0_toNat (slotOf p u) a, exec_read_onlyReadData hanswer⟩

/-! Stores. -/

theorem writePci_pciByteBecomes (s : State) (u : PciUnit) (a v : Byte) :
    PciByteBecomes s (writePci s u a v) u a v :=
  fun w x => readPci_writePci s u w a v x

theorem writePci_onlyPci (s : State) (u : PciUnit) (a v : Byte) : OnlyPci s (writePci s u a v) := rfl

/-- A change within the configuration spaces keeps what a following transaction meets. -/
theorem onlyPci_keeps {s t : State} (h : OnlyPci s t) :
    t.params = s.params ∧ t.phase = s.phase ∧ t.input = s.input ∧ t.readData = s.readData := by
  unfold OnlyPci at h
  exact ⟨by rw [h], by rw [h], by rw [h], by rw [h]⟩

/-- A byte that keeps its value is no change. -/
theorem pciByteBecomes_self (s : State) (u : PciUnit) (a : Byte) :
    PciByteBecomes s s u a (readPci s u a) := by
  intro w x
  split
  case isTrue h =>
    obtain ⟨rfl, rfl⟩ := h
    rfl
  case isFalse => rfl

@[simp] theorem exec_cfgwFnx (s : State) (u : PciUnit) (fn : FnIndex) (a v : Byte) :
    exec (.cfgwFnx u fn a v) s = .next s := rfl

@[simp] theorem exec_cfgwRo (s : State) (u : PciUnit) (a v : Byte) :
    exec (.cfgwRo u a v) s = .next s := rfl

@[simp] theorem exec_cfgwUnclaimed (s : State) (d : Slot) (fn : FnIndex) (a v : Byte) :
    exec (.cfgwUnclaimed d fn a v) s = .next s := rfl

@[simp] theorem exec_cfgwCmd (s : State) (u : PciUnit) (v : Byte) :
    exec (.cfgwCmd u v) s = .next (writePci s u Config.pciCmd (v &&& commandMask s.params u)) := rfl

@[simp] theorem exec_cfgwHbmask (s : State) (a v : Byte) :
    exec (.cfgwHbmask a v) s
      = .next (writePci s .hb a (v &&& (hbMask s.params a).getD 0xFF)) := rfl

@[simp] theorem exec_cfgwPlain (s : State) (u : PciUnit) (a v : Byte) :
    exec (.cfgwPlain u a v) s = .next (writePci s u a v) := rfl

/-- The bridge and the storage controller keep the I/O-space-enable bit alone (R226). -/
theorem commandMask_eq_ite (p : Params) (u : PciUnit) :
    commandMask p u = if u = .hb then p.cmdMaskHb else 0x01 := by
  cases u <;> rfl

/-- Settles O38: each row is one store, whose byte is the operand through the row's mask. -/
theorem pciWritesStore : Obligations.PciWritesStore := by
  refine ⟨fun p u a v => ?words, fun s u v => ?cmd, fun s a v m hmask => ?hbmask,
    fun s u a v => ?plain⟩
  case words =>
    exact ⟨encodeTransaction_cfgw_fn0_toNat (slotOf p u) Config.pciCmd v,
      encodeTransaction_cfgw_fn0_toNat p.slotHb a v,
      encodeTransaction_cfgw_fn0_toNat (slotOf p u) a v⟩
  case cmd =>
    rw [← commandMask_eq_ite]
    exact ⟨_, exec_cfgwCmd s u v, writePci_pciByteBecomes s u _ _, writePci_onlyPci s u _ _⟩
  case hbmask =>
    have hexec : exec (.cfgwHbmask a v) s = .next (writePci s .hb a (v &&& m)) := by
      rw [exec_cfgwHbmask, hmask, Option.getD_some]
    exact ⟨_, hexec, writePci_pciByteBecomes s .hb a _, writePci_onlyPci s .hb a _⟩
  case plain =>
    exact ⟨_, exec_cfgwPlain s u a v, writePci_pciByteBecomes s u a v, writePci_onlyPci s u a v⟩

/-! What a configuration write can do. -/

/-- The byte that a write of `v` at function index 0 leaves at address `a` of unit `u`, by the write
class of the address (R232 to R235). -/
def pciByteAfterWrite (s : State) (u : PciUnit) (a v : Byte) : Byte :=
  match pciClass s.params u a with
  | .ro => readPci s u a
  | .cmd => v &&& commandMask s.params u
  | .hbmask => v &&& (hbMask s.params a).getD 0xFF
  | .plain => v

/-- The order of the classes is the order of R239's outcomes. -/
theorem pciByteAfterWrite_eq_ite (s : State) (u : PciUnit) (a v : Byte) :
    pciByteAfterWrite s u a v
      = if pciReadOnly s.params u a then readPci s u a
        else if a = 0x04 then v &&& commandMask s.params u
        else if u = .hb ∧ (hbMask s.params a).isSome then v &&& (hbMask s.params a).getD 0xFF
        else v := by
  unfold pciByteAfterWrite pciClass Config.pciCmd
  split_ifs <;> rfl

/-- A write that no unit answers, or above function index 0, is ignored (R231, R237). -/
theorem exec_decodeCfgWrite_ignored {c : DecodeContext} {d : Slot} {fn : FnIndex} (a v : Byte)
    (s : State) (h : unitAt c.params d = none ∨ fn ≠ 0) :
    exec (decodeCfgWrite c d fn a v) s = .next s := by
  unfold decodeCfgWrite
  split
  case h_1 => exact exec_cfgwUnclaimed s d fn a v
  case h_2 u hunit =>
    have hfn : fn ≠ 0 := h.resolve_left (by simp [hunit])
    rw [if_neg hfn, exec_cfgwFnx]

/-- A write at function index 0 of a unit stores the byte of the address's class in that byte of that
unit, and does nothing else (R232 to R235, R221). -/
theorem exec_decodeCfgWrite_stores {s : State} {d : Slot} {u : PciUnit} (a v : Byte)
    (hunit : unitAt s.params d = some u) :
    ∃ t, exec (decodeCfgWrite (decodeContext s) d 0 a v) s = .next t
      ∧ PciByteBecomes s t u a (pciByteAfterWrite s u a v) ∧ OnlyPci s t := by
  simp only [decodeCfgWrite, decodeContext_params, hunit, if_true, pciByteAfterWrite]
  cases hclass : pciClass s.params u a with
  | ro => exact ⟨s, exec_cfgwRo s u a v, pciByteBecomes_self s u a, rfl⟩
  | cmd =>
    obtain ⟨-, rfl⟩ := (pciClass_eq_cmd_iff s.params u a).1 hclass
    exact ⟨_, exec_cfgwCmd s u v, writePci_pciByteBecomes s u _ _, writePci_onlyPci s u _ _⟩
  | hbmask =>
    obtain rfl := unit_of_pciClass_hbmask hclass
    exact ⟨_, exec_cfgwHbmask s a v, writePci_pciByteBecomes s .hb a _, writePci_onlyPci s .hb a _⟩
  | plain =>
    exact ⟨_, exec_cfgwPlain s u a v, writePci_pciByteBecomes s u a v, writePci_onlyPci s u a v⟩

/-- Every configuration write completes and changes at most the configuration spaces (R238). -/
theorem exec_decodeCfgWrite_onlyPci (s : State) (d : Slot) (fn : FnIndex) (a v : Byte) :
    ∃ t, exec (decodeCfgWrite (decodeContext s) d fn a v) s = .next t ∧ OnlyPci s t := by
  by_cases hfn : fn = 0
  · subst hfn
    cases hunit : unitAt s.params d with
    | none => exact ⟨s, exec_decodeCfgWrite_ignored a v s (.inl hunit), rfl⟩
    | some u =>
      obtain ⟨t, hexec, -, honly⟩ := exec_decodeCfgWrite_stores a v hunit
      exact ⟨t, hexec, honly⟩
  · exact ⟨s, exec_decodeCfgWrite_ignored a v s (.inr hfn), rfl⟩

/-! Configuration transactions on a live block. -/

/-- The step on a configuration write's word: the write's row, on the state with the word taken. -/
theorem step_of_cfgw {s : State} {d : Slot} {fn : FnIndex} {a v : Byte} {rest : List HostRequest}
    (hlive : s.phase = .live) (h : s.input = .word (encodeTransaction (.cfgw d fn a v)) :: rest) :
    step s = exec (decodeCfgWrite (decodeContext (consume s)) d fn a v) (consume s) := by
  rw [step_of_transaction h]
  simp [decodeTransaction, hlive]

/-- Settles O40: a read answers and a write completes within the configuration spaces, at every slot. -/
theorem pciTransactionsTouchOnlyPci : Obligations.PciTransactionsTouchOnlyPci := by
  intro s x rest hlive hx hinput
  obtain hread | ⟨d, fn, a, v, rfl⟩ := hx
  · obtain ⟨r, hr⟩ := decodeTransaction_read_answers s x hlive (.inr hread)
    refine ⟨_, step_of_read hinput hr, ?_⟩
    simp [answer, consume, hinput]
  · obtain ⟨t, hexec, honly⟩ := exec_decodeCfgWrite_onlyPci (consume s) d fn a v
    refine ⟨t, (step_of_cfgw hlive hinput).trans hexec, honly.trans ?_⟩
    obtain ⟨-, -, -, hdata⟩ := onlyPci_keeps honly
    simp [consume, hinput, hdata]

/-- A read of a unit's slot answers the sentinel above function index 0, the stored byte at 0 (R229,
R230). -/
theorem readAnswer_decodeCfgRead {s : State} {c : DecodeContext} {d : Slot} {u : PciUnit}
    (fn : FnIndex) (a : Byte) (hunit : unitAt c.params d = some u) :
    readAnswer s (decodeCfgRead c d fn a)
      = some (.byte (if fn ≠ 0 then 0xFF else readPci s u a)) := by
  simp only [decodeCfgRead, hunit]
  by_cases hfn : fn = 0
  · rw [if_pos hfn, if_neg (not_not.2 hfn)]
    rfl
  · rw [if_neg hfn, if_pos hfn]
    rfl

/-- The step on a configuration read's word at a unit's slot. -/
theorem step_of_cfgr {s : State} {d : Slot} {fn : FnIndex} {a : Byte} {u : PciUnit}
    {rest : List HostRequest} (hlive : s.phase = .live) (hunit : unitAt s.params d = some u)
    (h : s.input = .word (encodeTransaction (.cfgr d fn a)) :: rest) :
    step s = .next (answer (consume s) (.byte (if fn ≠ 0 then 0xFF else readPci s u a))) := by
  refine step_of_read h ?_
  rw [← readAnswer_decodeCfgRead (c := decodeContext s) fn a hunit]
  simp [decodeTransaction, hlive]

/-- The step on a configuration write's word at a unit's slot: at function index 0 the unit's byte is
the one of the address's class, above it the record is unchanged (R231 to R235). -/
theorem step_of_cfgw_unit {s : State} {d : Slot} {fn : FnIndex} {a v : Byte} {u : PciUnit}
    {rest : List HostRequest} (hlive : s.phase = .live) (hunit : unitAt s.params d = some u)
    (h : s.input = .word (encodeTransaction (.cfgw d fn a v)) :: rest) :
    ∃ t, step s = .next t ∧ OnlyPci (consume s) t
      ∧ (fn = 0 → readPci t u a = pciByteAfterWrite s u a v) ∧ (fn ≠ 0 → t.chip = s.chip) := by
  rw [step_of_cfgw hlive h]
  by_cases hfn : fn = 0
  · subst hfn
    obtain ⟨t, hexec, hbyte, honly⟩ :=
      exec_decodeCfgWrite_stores (s := consume s) a v hunit
    exact ⟨t, hexec, honly, fun _ => (hbyte u a).trans (if_pos ⟨rfl, rfl⟩),
      fun hne => absurd rfl hne⟩
  · exact ⟨consume s, exec_decodeCfgWrite_ignored a v _ (.inr hfn), rfl, fun h0 => absurd h0 hfn,
      fun _ => rfl⟩

/-- Two steps that both complete are a run of two. -/
theorem core_run_two {s m t : State} (hfirst : step s = .next m) (hsecond : step m = .next t) :
    core.run 2 s = .next t := by
  have hs : core.step s = .next m := hfirst
  have hm : core.step m = .next t := hsecond
  simp only [Host.Core.run, hs, hm]

/-- Settles O39: the write leaves all that the read's decoding depends on, and the read answers the
byte that the write left. -/
theorem pciReadback : Obligations.PciReadback := by
  intro s u fn a v rest hlive hwf hinput
  have hunit : unitAt s.params (slotOf s.params u) = some u := unitAt_slotOf s.params hwf u
  obtain ⟨m, hwrite, honly, hbyte, hchip⟩ := step_of_cfgw_unit hlive hunit hinput
  obtain ⟨hparams, hphase, hqueue, hdata⟩ := onlyPci_keeps honly
  have hmunit : unitAt m.params (slotOf s.params u) = some u := by rwa [hparams]
  have hminput : m.input = .word (encodeTransaction (.cfgr (slotOf s.params u) fn a)) :: rest := by
    rw [hqueue, consume_input, hinput, List.tail_cons]
  have hread := step_of_cfgr (hphase.trans hlive) hmunit hminput
  refine ⟨_, core_run_two hwrite hread, ?_, hchip⟩
  rw [answer_readData, consume_readData, hdata, consume_readData, ← pciByteAfterWrite_eq_ite]
  by_cases hfn : fn = 0
  · rw [if_neg (not_not.2 hfn), if_neg (not_not.2 hfn), hbyte hfn]
  · rw [if_pos hfn, if_pos hfn]

end Sys2Proof.Machine
end

section
/-! PROOFS. The outcomes that are no exception: ignored writes (R251), sentinel reads and reads without
a response (R253); and the refusal of what a block is not live for (R261). -/

namespace Sys2Proof.Machine

/-! Transactions that the block is not live for (R261). -/

/-- The step on a valid word: the row its transaction is in this state, on the state with the word taken
(R21, R90). -/
theorem step_of_parseWord {s : State} {w : Word} {x : Transaction} {rest : List HostRequest}
    (hinput : s.input = .word w :: rest) (hparse : parseWord w = some x) :
    step s = exec (decodeTransaction (decodeContext s) x) (consume s) := by
  obtain rfl : encodeTransaction x = w := encodeTransaction_of_parseWord w x hparse
  exact step_of_transaction hinput

/-- Outside phase Live every transaction but the POWERON of an absent block decodes to NOT_LIVE, and so
does POWERON in every phase but Absent, phase Live included (R98, R99). -/
theorem decodeTransaction_of_not_live {c : DecodeContext} {x : Transaction}
    (h : (c.phase ≠ .live ∧ ¬ (x = .poweron ∧ c.phase = .absent))
      ∨ (x = .poweron ∧ c.phase ≠ .absent)) :
    decodeTransaction c x = .notLive x := by
  cases hphase : c.phase with
  | live =>
    have hx : x = .poweron := by simpa [hphase] using h
    simp [decodeTransaction, hphase, hx]
  | absent =>
    have hx : x ≠ .poweron := by simpa [hphase] using h
    simp [decodeTransaction, hphase, hx]
  | failed | destroyed => simp [decodeTransaction, hphase]

/-- NOT_LIVE is refused by name (R261). -/
@[simp] theorem exec_notLive (x : Transaction) (s : State) :
    exec (.notLive x) s = .refused .notLive := rfl

/-- Settles O10: such a word decodes to NOT_LIVE, which is refused. -/
theorem notLiveIsRefused : Obligations.NotLiveIsRefused := by
  refine ⟨fun s w x rest hinput hparse hdead => ?_, exec_notLive⟩
  have hrow : decodeTransaction (decodeContext s) x = .notLive x :=
    decodeTransaction_of_not_live hdead
  rw [step_of_parseWord hinput hparse, hrow, exec_notLive]

/-! Ignored writes (R251). -/

@[simp] theorem exec_iowHostGap (s : State) (p : Port) (v : Byte) :
    exec (.iowHostGap p v) s = .next s := rfl

@[simp] theorem exec_iowLocalGap (s : State) (p : Port) (v : Byte) :
    exec (.iowLocalGap p v) s = .next s := rfl

@[simp] theorem exec_iowUnclaimed (s : State) (p : Port) (v : Byte) :
    exec (.iowUnclaimed p v) s = .next s := rfl

/-- Settles O20: the equations of the seven rows. -/
theorem ignoredWritesChangeNothing : Obligations.IgnoredWritesChangeNothing := fun s v =>
  ⟨exec_iowIsaDataRo s v, fun p => exec_iowHostGap s p v, fun p => exec_iowLocalGap s p v,
    fun p => exec_iowUnclaimed s p v, fun u fn a => exec_cfgwFnx s u fn a v,
    fun u a => exec_cfgwRo s u a v, fun d fn a => exec_cfgwUnclaimed s d fn a v⟩

/-! Sentinel reads, and reads without a response (R253). -/

/-- A read row that answers the sentinel appends the byte 0xFF to the read data and does nothing else. -/
theorem exec_of_sentinelRead {s : State} {i : Instr}
    (h : readAnswer s i = some (.byte Config.sentinel)) :
    exec i s = .next { s with readData := s.readData ++ [.byte 0xFF] } :=
  exec_of_readAnswer h

/-- A read row that answers no response appends just that to the read data. -/
theorem exec_of_noResponseRead {s : State} {i : Instr} (h : readAnswer s i = some .noResponse) :
    exec i s = .next { s with readData := s.readData ++ [.noResponse] } :=
  exec_of_readAnswer h

/-- Settles O21: the gap ports and the functions above 0 are sentinel reads, the unclaimed ports and
slots reads without a response. -/
theorem sentinelAndNoResponseReads : Obligations.SentinelAndNoResponseReads := by
  intro s
  refine ⟨fun p => ?hostGap, fun p => ?localGap, fun u fn a => ?functionAboveZero,
    fun p => ?unclaimedPort, fun d fn a => ?unclaimedSlot⟩
  case hostGap | localGap | functionAboveZero => exact exec_of_sentinelRead rfl
  case unclaimedPort | unclaimedSlot => exact exec_of_noResponseRead rfl

end Sys2Proof.Machine
end

section
/-! PROOFS. The lifecycle of the block: construction (R270, R255), the system reset (R272) and the
teardown (R273). -/

namespace Sys2Proof.Machine

/-! The system reset (R272). -/

theorem exec_reset (s : State) : exec .reset s = .next (systemReset s) := rfl

/-- Right after a reset register 0x7B holds 0xFF and every other primary register zero, whether or not
the reset recalculates. -/
theorem readIsa_systemReset (s : State) (a : Byte) :
    readIsa (systemReset s) a = if a = 0x7B then 0xFF else 0 := by
  obtain ⟨-, hreset⟩ | ⟨-, hreset⟩ := systemReset_cases s
  all_goals
    rw [hreset]
    exact read_resetRegisters a

theorem clearRegisters_onlyIsaRegisters (s : State) : OnlyIsaRegisters s (clearRegisters s) := rfl

/-- With no shadow bit set, every region passes reads and writes through (R183). -/
theorem regionStates_zeroShadow (k : Fin 13) :
    (regionStates zeroShadow)[k] = .applied .readPassthrough .writePassthrough := by
  revert k
  decide

/-- RECALC on the registers a reset leaves clears both flags and makes every region passthrough. -/
theorem recalc_of_resetRegisters {m : State} (h : m.chip.isaRegisters = resetRegisters) :
    (recalc m).shadowWriteAny = false ∧ (recalc m).shadowReadAny = false
    ∧ ∀ k : Fin 13, (recalc m).region[k] = .applied .readPassthrough .writePassthrough := by
  have hzero : shadowBytes m.chip.isaRegisters = zeroShadow := by rw [h, shadowBytes_reset]
  obtain ⟨hwrite, hread⟩ := flags_zero
  rw [recalc_shadowWriteAny, recalc_shadowReadAny, recalc_region, hzero]
  exact ⟨hwrite, hread, regionStates_zeroShadow⟩

/-- Settles O43: by the two cases of a reset. Where it recalculates, RECALC meets the cleared registers
and a trace that the SMRAM forward has already joined. -/
theorem resetClearsThePrimaryRegisters : Obligations.ResetClearsThePrimaryRegisters := by
  refine ⟨fun _ => rfl, fun s => ⟨_, exec_reset s, readIsa_systemReset s, ?_⟩⟩
  obtain ⟨hrecalc, hreset⟩ | ⟨hrecalc, hreset⟩ := systemReset_cases s
  · rw [hreset, hrecalc]
    obtain ⟨hwrite, hread, hregions⟩ :=
      recalc_of_resetRegisters (m := smramForward (clearRegisters s) false) rfl
    exact ⟨nofun, fun _ => ⟨recalc_recalculated rfl, rfl, hwrite, hread, hregions, rfl⟩⟩
  · rw [hreset, hrecalc]
    exact ⟨fun _ => clearRegisters_onlyIsaRegisters s, nofun⟩

/-! Construction (R270). -/

theorem exec_poweron (s : State) : exec .poweron s = execPoweron s := rfl

theorem readIsa_construct (s : State) (a : Byte) : readIsa (construct s) a = 0 :=
  RegFile.read_zero a

/-- A construction leaves both windows unmapped, with index and registers zero (R39). -/
theorem window_construct (s : State) (w : WindowId) :
    (window (construct s) w).base = 0 ∧ (window (construct s) w).index = 0
    ∧ ∀ a, RegFile.read (window (construct s) w).reg a = 0 := by
  cases w <;> exact ⟨rfl, rfl, RegFile.read_zero⟩

theorem readPci_construct (s : State) (u : PciUnit) (a : Byte) :
    readPci (construct s) u a = constructionByte s.params u a :=
  read_constructionPci s.params u a

/-- Settles O41: by what POWERON can do. A well-formed set is not refused, and the draw decides between
the constructed block and the failed one. That the phase was Absent is decode's condition (R98): the row's
meaning does not read it. -/
theorem powerOnConstructsOrFails : Obligations.PowerOnConstructsOrFails := by
  refine ⟨fun _ => rfl, fun s _ hwf => ?_⟩
  rw [exec_poweron]
  obtain ⟨hill, -⟩ | ⟨-, hdraw, hlive⟩ | ⟨-, hdraw, hfailed⟩ := execPoweron_cases s
  · cases hwf.symm.trans hill
  · refine ⟨_, hlive, ?_⟩
    rw [hdraw]
    exact ⟨fun _ => ⟨rfl, rfl, readIsa_construct _, window_construct _, readPci_construct _,
      unknownRegions_get, rfl, rfl, rfl, rfl, rfl, rfl, rfl, rfl⟩, nofun⟩
  · refine ⟨_, hfailed, ?_⟩
    rw [hdraw]
    exact ⟨nofun, fun _ => rfl⟩

/-! The teardown (R273). -/

theorem exec_destroy (s : State) : exec .destroy s = .next (teardown s) := rfl

/-- The calls of a teardown, with R273's own conditions and numbers. -/
theorem teardownEffects_eq (p : Params) (hostBase localBase : Port) :
    teardownEffects p hostBase localBase
      = (if hostBase = 0 then [] else [Effect.portUnreg hostBase 5 .hostBus])
        ++ (if localBase = 0 then [] else [Effect.portUnreg localBase 5 .localBus])
        ++ [.portUnreg 0x22 2 .primary, .pciRelease p.slotHb, .pciRelease p.slotBr,
            .pciRelease p.slotSt] := by
  rw [teardownEffects, ite_not, ite_not]
  rfl

/-- Settles O44: the calls of the teardown join the trace, and the phase is Destroyed. -/
theorem destroyReleasesEverything : Obligations.DestroyReleasesEverything := by
  refine ⟨fun _ => rfl, fun s => ⟨_, exec_destroy s, teardown_phase s, ?_, rfl⟩⟩
  rw [teardown_trace, teardownEffects_eq, ← List.append_assoc, ← List.append_assoc]

end Sys2Proof.Machine
end

section
/-! PROOFS. The encoding as a round trip in both directions (R103), the words as numbers and in samples
(R91 to R94), and the step on what the host delivers (R21, R90). -/

namespace Sys2Proof.Machine

/-! From an instruction to its word and back. -/

/-- Settles O1: the word parses to the row's transaction, which the row's condition decodes to the row. -/
theorem decodeEncodeAgree : Obligations.DecodeEncodeAgree :=
  fun c i hwf h => decode_encode c i hwf h

/-! From a transaction to its row and back: the row drops no bit of it. -/

theorem transactionOf_decodeIoRead (c : DecodeContext) (p : Port) :
    transactionOf c.params (decodeIoRead c p) = .ior p := by
  unfold decodeIoRead
  split
  case h_2 hclaims =>
    obtain ⟨-, rfl⟩ | ⟨hn, -⟩ := port_of_primaryClaim hclaims
    · rfl
    · cases hn
  case h_3 hn hclaims =>
    obtain ⟨hzero, -⟩ | ⟨-, rfl⟩ := port_of_primaryClaim hclaims
    · exact absurd hzero hn
    · rfl
  all_goals rfl

theorem transactionOf_decodePrimaryWrite (p : Params) (c : DecodeContext) (v : Byte) :
    transactionOf p (decodePrimaryWrite c v) = .iow Config.isaDataPort v := by
  unfold decodePrimaryWrite
  split <;> rfl

theorem transactionOf_decodeIoWrite (c : DecodeContext) (p : Port) (v : Byte) :
    transactionOf c.params (decodeIoWrite c p v) = .iow p v := by
  unfold decodeIoWrite
  split
  case h_2 hclaims =>
    obtain ⟨-, rfl⟩ | ⟨hn, -⟩ := port_of_primaryClaim hclaims
    · rfl
    · cases hn
  case h_3 hn hclaims =>
    obtain ⟨hzero, -⟩ | ⟨-, rfl⟩ := port_of_primaryClaim hclaims
    · exact absurd hzero hn
    · exact transactionOf_decodePrimaryWrite c.params c v
  all_goals rfl

theorem transactionOf_decodeCfgRead (c : DecodeContext) (d : Slot) (fn : FnIndex) (a : Byte) :
    transactionOf c.params (decodeCfgRead c d fn a) = .cfgr d fn a := by
  unfold decodeCfgRead
  split
  case h_1 => rfl
  case h_2 u hunit =>
    obtain rfl := slotOf_of_unitAt c.params d u hunit
    split
    case isTrue hfn => rw [hfn, transactionOf]
    case isFalse => rfl

theorem transactionOf_decodeCfgWrite (c : DecodeContext) (d : Slot) (fn : FnIndex) (a v : Byte) :
    transactionOf c.params (decodeCfgWrite c d fn a v) = .cfgw d fn a v := by
  unfold decodeCfgWrite
  split
  case h_1 => rfl
  case h_2 u hunit =>
    obtain rfl := slotOf_of_unitAt c.params d u hunit
    split
    case isFalse => rfl
    case isTrue hfn =>
      subst hfn
      split
      case h_2 hclass =>
        obtain ⟨-, rfl⟩ := (pciClass_eq_cmd_iff c.params u a).1 hclass
        rfl
      case h_3 hclass =>
        obtain rfl := unit_of_pciClass_hbmask hclass
        rfl
      all_goals rfl

/-- The row that a transaction decodes to stands for that transaction, in every state. -/
theorem transactionOf_decodeTransaction (c : DecodeContext) (x : Transaction) :
    transactionOf c.params (decodeTransaction c x) = x := by
  unfold decodeTransaction
  split
  case h_1 =>
    cases x with
    | ior p => exact transactionOf_decodeIoRead c p
    | iow p v => exact transactionOf_decodeIoWrite c p v
    | cfgr d fn a => exact transactionOf_decodeCfgRead c d fn a
    | cfgw d fn a v => exact transactionOf_decodeCfgWrite c d fn a v
    | poweron | reset | destroy => rfl
  case h_2 =>
    split
    case isTrue hx => exact hx.symm
    case isFalse => rfl
  case h_3 | h_4 => rfl

/-! A row whose condition holds has operands that it allows. -/

/-- A port without a primary claim is neither of the two primary ports (R61). -/
theorem offPrimary_of_no_primaryClaim {hostBase localBase q : Port}
    (h : ∀ n, (Owner.primary, n) ∉ portClaims hostBase localBase q) : offPrimary q = true := by
  have hindex : q ≠ Config.isaIndexPort := fun hq =>
    h 0 ((portClaimsAreTheRules hostBase localBase q .primary 0).2 (.inl ⟨rfl, rfl, hq⟩))
  have hdata : q ≠ Config.isaDataPort := fun hq =>
    h 1 ((portClaimsAreTheRules hostBase localBase q .primary 1).2 (.inr (.inl ⟨rfl, rfl, hq⟩)))
  simp [offPrimary, hindex, hdata]

/-- A window claims only ports above the offset of the claim, since its base is not zero (R62). -/
theorem offset_lt_of_windowClaim {hostBase localBase q : Port} {w : WindowId} {n : Nat}
    (h : (w.owner, n) ∈ portClaims hostBase localBase q) : n < q.toNat := by
  have hrule := (portClaimsAreTheRules hostBase localBase q w.owner n).1 h
  cases w
  all_goals
    simp only [WindowId.owner, reduceCtorEq, false_and, true_and, false_or, or_false] at hrule
    obtain ⟨hbase, -, hport⟩ := hrule
    bv_omega

/-- The operand of a window row: its port is off the primary window and above the row's offset. -/
theorem port_of_windowCondition {c : DecodeContext} {w : WindowId} {q : Port} {offset : Nat → Bool}
    (h : windowCondition c w q offset = true) :
    offPrimary q = true ∧ ∃ n, offset n = true ∧ n < q.toNat := by
  obtain ⟨-, n, hclaims, hn⟩ := (windowCondition_iff c w q offset).1 h
  have hwindow : (w.owner, n) ∈ portClaims c.hostBase c.localBase q := by simp [hclaims]
  have hprimary : ∀ m, (Owner.primary, m) ∉ portClaims c.hostBase c.localBase q := by
    cases w <;> simp [hclaims, WindowId.owner]
  exact ⟨offPrimary_of_no_primaryClaim hprimary, n, hn, offset_lt_of_windowClaim hwindow⟩

/-- Row by row: where an operand is restricted, the condition says so or fixes the claims on its port. -/
theorem wellFormed_of_rowCondition {c : DecodeContext} {i : Instr} (h : rowCondition c i = true) :
    i.wellFormed c.params = true := by
  cases i
  case iorHostIndex | iowHostIndex | iorHostData | iowHostData | iorHostGap | iowHostGap
      | iorLocalIndex | iowLocalIndex | iorLocalData | iowLocalData | iorLocalGap | iowLocalGap =>
    obtain ⟨hoff, n, hn, hlt⟩ := port_of_windowCondition h
    simp only [beq_iff_eq, Bool.and_eq_true, bne_iff_ne] at hn
    simp only [Instr.wellFormed, hoff, Bool.true_and, decide_eq_true_eq]
    omega
  case iorUnclaimed q | iowUnclaimed q v =>
    obtain ⟨-, hclaims⟩ : c.phase = .live ∧ portClaims c.hostBase c.localBase q = [] := by
      simpa [rowCondition] using h
    have hnone : ∀ n, (Owner.primary, n) ∉ portClaims c.hostBase c.localBase q := by simp [hclaims]
    exact offPrimary_of_no_primaryClaim hnone
  case cfgrFnx | cfgwFnx | cfgwHbmask | cfgwPlain | cfgrUnclaimed | cfgwUnclaimed =>
    exact (Bool.and_eq_true_iff.1 h).2
  case cfgwRo u a v =>
    have hro : pciReadOnly c.params u a = true := (Bool.and_eq_true_iff.1 h).2
    exact beq_iff_eq.2 ((pciClass_eq_ro_iff c.params u a).2 hro)
  all_goals rfl

/-- A word that decodes to a row is the word of a transaction that decodes to that row. -/
theorem transaction_of_decode {c : DecodeContext} {w : Word} {i : Instr} (h : decode c w = .instr i) :
    ∃ x, parseWord w = some x ∧ i = decodeTransaction c x := by
  cases hparse : parseWord w with
  | none =>
    rw [(decode_eq_invalidWord_iff c w).2 hparse] at h
    cases h
  | some x =>
    rw [decode_of_parseWord c hparse] at h
    exact ⟨x, rfl, (DecodeResult.instr.inj h).symm⟩

/-- Settles O2: the row of a transaction has its condition, the condition restricts the operands, and the
row stands for the transaction, whose word is the one that was parsed. -/
theorem decodedRowIsTheTablesRow : Obligations.DecodedRowIsTheTablesRow := by
  intro c w i h
  obtain ⟨x, hparse, rfl⟩ := transaction_of_decode h
  have hcond := rowCondition_decodeTransaction c x
  refine ⟨hcond, wellFormed_of_rowCondition hcond, ?_⟩
  rw [encode, transactionOf_decodeTransaction]
  exact encodeTransaction_of_parseWord w x hparse

/-! Words as numbers, and in samples. -/

/-- Settles O5: the formats with operands by the sums of their fields, the lifecycle words by
evaluation. -/
theorem transactionWordsAsNumbers : Obligations.TransactionWordsAsNumbers :=
  ⟨encodeTransaction_ior_toNat, encodeTransaction_iow_toNat, encodeTransaction_cfgr_toNat,
    encodeTransaction_cfgw_toNat, rfl, rfl, rfl⟩

/-- Settles O6, by evaluation of the decoder on each of the eight words. -/
theorem sampleWordsDecode : Obligations.SampleWordsDecode := by
  refine ⟨?m1, ?s7, ?h2, ?h9, ?x8, ?p10, ?p8, ?l1⟩
  all_goals decide

/-! The step on what the host delivers. -/

/-- Settles O8: the word is fetched as its row, and its removal is that of the queue's head. -/
theorem stepRunsTheDecodedInstruction : Obligations.StepRunsTheDecodedInstruction := by
  intro s w rest i hinput hdecode
  have hconsume : consume s = { s with input := rest } := by rw [consume, hinput, List.tail_cons]
  obtain ⟨x, hparse, rfl⟩ := transaction_of_decode hdecode
  rw [step_of_parseWord hinput hparse, hconsume]

/-- Settles O9: the three heads of the queue that are no word, each by its own case of the step. -/
theorem idleAndUnsupportedRequests : Obligations.IdleAndUnsupportedRequests := by
  refine ⟨fun s h => ?idle, fun s a rest h => ?wide, fun s image rest h => ?restore⟩
  all_goals simp only [step, fetch, h]

/-- Settles O42: the word of POWERON reaches the construction, whose only outcome on such a set is the
refusal. -/
theorem illFormedParametersAreRefused : Obligations.IllFormedParametersAreRefused := by
  intro s rest habsent hill hinput
  have hrow : decodeTransaction (decodeContext s) .poweron = .poweron := by
    simp [decodeTransaction, habsent]
  have hword : s.input = .word (encodeTransaction .poweron) :: rest := hinput
  rw [step_of_transaction hword, hrow, exec_poweron]
  obtain ⟨-, hrefused⟩ | ⟨hwf, -⟩ | ⟨hwf, -⟩ := execPoweron_cases (consume s)
  · exact hrefused
  all_goals cases hill.symm.trans hwf

end Sys2Proof.Machine
end

section
/-! PROOFS. Everything a step can do to a state, said once as a relation: the obligations about every
step are read off its cases. -/

namespace Sys2Proof.Machine

/-- The four shadow-control registers (R180). -/
def shadowRegisters : List Byte := [0x25, 0x26, 0x27, 0x28]

/-- A store into primary register `a` through its mask (R150). -/
abbrev maskedStore (s : State) (a v : Byte) : State :=
  writeIsa s a (v &&& primaryMask s.params a)

/-- The next states of a step, from the state with the queue's head taken. -/
inductive Transition (s : State) : State → Prop
  /-- Nothing was delivered (R256), or the write is ignored (R251, R138, R237). -/
  | stay : Transition s s
  /-- A read of a port or of a configuration address (R72). -/
  | read (r : ReadResult) (hlive : s.phase = .live) : Transition s (answer s r)
  /-- The primary index (R122). -/
  | indexWrite (v : Byte) (hlive : s.phase = .live) : Transition s (writeIsaIndex s v)
  /-- A window's index or register (R126, R128, R132, R134). -/
  | windowWrite (w : WindowId) (x : Window) (hlive : s.phase = .live)
      (hbase : x.base = (window s w).base) : Transition s (withWindow s w x)
  /-- A configuration byte that is not read-only (R233 to R235). -/
  | pciWrite (u : PciUnit) (a v : Byte) (hlive : s.phase = .live)
      (hwritable : pciReadOnly s.params u a = false) :
      Transition s (writePci s u a (pciByteAfterWrite s u a v))
  /-- A primary data write without further effect (R154, R155, R158, R206). -/
  | store (a v : Byte) (hlive : s.phase = .live) (ha : a ∉ shadowRegisters) :
      Transition s (maskedStore s a v)
  /-- A shadow-control write (R156). -/
  | shadowWrite (a v : Byte) (hlive : s.phase = .live) : Transition s (recalc (maskedStore s a v))
  /-- A write of SMRAM_REG (R157, R189). -/
  | smramWrite (a v : Byte) (en : Bool) (hlive : s.phase = .live) :
      Transition s (recalc (smramForward (maskedStore s a v) en))
  /-- A base-byte write that moves the selected window (R202). -/
  | move (which : BaseByte) (v : Byte) (w : WindowId) (new : Port) (hlive : s.phase = .live)
      (hfit : new.toNat ≤ 0xFFFB) :
      Transition s (moveWindow (maskedStore s (baseRegister which) v) w new)
  /-- A reset without recalculation (R272). -/
  | clear (hlive : s.phase = .live) (hrecalc : s.params.resetRecalc = false) :
      Transition s (clearRegisters s)
  /-- A reset with recalculation (R272). -/
  | clearRecalc (hlive : s.phase = .live) :
      Transition s (recalc (smramForward (clearRegisters s) false))
  /-- A successful construction (R270). -/
  | construct (habsent : s.phase = .absent) (hwf : s.params.wf = true) :
      Transition s (construct (drawConstruction s))
  /-- A failed construction (R255). -/
  | fail (habsent : s.phase = .absent) : Transition s (constructionFailed (drawConstruction s))
  /-- A teardown (R273). -/
  | teardown (hlive : s.phase = .live) : Transition s (teardown s)

/-! Primary data writes. -/

/-- The masked and the plain class hold no shadow-control register (R101). -/
theorem not_shadowRegister_of_class {p : Params} {a : Byte}
    (h : primaryClass p a = .masked ∨ primaryClass p a = .plain) : a ∉ shadowRegisters := by
  intro ha
  simp only [shadowRegisters, List.mem_cons, List.not_mem_nil, or_false] at ha
  unfold primaryClass at h
  split_ifs at h <;> simp_all

theorem writeIsa_eq_maskedStore {s : State} {a : Byte} (v : Byte)
    (h : primaryMask s.params a = 0xFF) : writeIsa s a v = maskedStore s a v := by
  rw [writeIsa, write_of_fullMask _ v h]
  rfl

/-- Both base registers have the full mask (R151). -/
theorem primaryMask_baseRegister (p : Params) (which : BaseByte) :
    primaryMask p (baseRegister which) = 0xFF := by
  cases which <;> rfl

/-- A base-byte write that completes stores its byte, and moves a window where one is selected. -/
theorem transition_of_baseWrite {s t : State} {which : BaseByte} {v : Byte}
    (hlive : s.phase = .live) (h : exec (baseWrite which v) s = .next t) : Transition s t := by
  rw [exec_baseWrite, writeIsa_eq_maskedStore v (primaryMask_baseRegister s.params which)] at h
  obtain ⟨-, hstay⟩ | ⟨w, -, ⟨-, hrefused⟩ | ⟨hfit, hmove⟩⟩ :=
    relocate_cases (maskedStore s (baseRegister which) v) which v
  · cases h.symm.trans hstay
    exact .store _ v hlive (by cases which <;> decide)
  · cases h.symm.trans hrefused
  · cases h.symm.trans hmove
    exact .move which v w _ hlive hfit

/-- A primary data write that completes, by its class (R101, R153 to R160). -/
theorem transition_of_dataWrite {s t : State} {v : Byte} (hlive : s.phase = .live)
    (h : exec (decodePrimaryWrite (decodeContext s) v) s = .next t) : Transition s t := by
  unfold decodePrimaryWrite at h
  simp only [decodeContext_params, decodeContext_isaIndex] at h
  cases hclass : primaryClass s.params s.chip.isaIndex
  all_goals simp only [hclass] at h
  case ro =>
    cases h
    exact .stay
  case modesel =>
    cases h
    rw [writeIsa_eq_maskedStore v rfl]
    exact .store _ v hlive (by decide)
  case baselo => exact transition_of_baseWrite (which := .lo) hlive h
  case basehi => exact transition_of_baseWrite (which := .hi) hlive h
  case shadow =>
    cases h
    exact .shadowWrite _ v hlive
  case smram =>
    cases h
    exact .smramWrite _ v _ hlive
  case masked =>
    cases h
    exact .store _ v hlive (not_shadowRegister_of_class (.inl hclass))
  case plain =>
    have hmask : primaryMask s.params s.chip.isaIndex = 0xFF := by
      have hcond := primaryClass_condition s.params s.chip.isaIndex
      rw [hclass] at hcond
      exact hcond.2
    cases h
    rw [writeIsa_eq_maskedStore v hmask]
    exact .store _ v hlive (not_shadowRegister_of_class (.inr hclass))

/-! The transactions of a live block. -/

/-- A configuration write is ignored, or stores the byte of its address's class in a byte that is not
read-only (R231 to R237). -/
theorem transition_of_cfgWrite {s t : State} {d : Slot} {fn : FnIndex} {a v : Byte}
    (hlive : s.phase = .live)
    (h : exec (decodeCfgWrite (decodeContext s) d fn a v) s = .next t) : Transition s t := by
  by_cases hignored : unitAt s.params d = none ∨ fn ≠ 0
  · cases h.symm.trans (exec_decodeCfgWrite_ignored a v s hignored)
    exact .stay
  · obtain ⟨hclaimed, hfn⟩ := not_or.1 hignored
    obtain ⟨u, hunit⟩ := Option.ne_none_iff_exists'.1 hclaimed
    obtain rfl := not_not.1 hfn
    simp only [decodeCfgWrite, decodeContext_params, hunit, if_true] at h
    have hro := pciClass_eq_ro_iff s.params u a
    cases hclass : pciClass s.params u a
    all_goals simp only [hclass] at h
    case ro =>
      cases h
      exact .stay
    all_goals
      have hwritable : pciReadOnly s.params u a = false := by simpa [hclass] using hro
      have hwrite := Transition.pciWrite u a v hlive hwritable
      simp only [pciByteAfterWrite, hclass] at hwrite
    case cmd =>
      obtain ⟨-, rfl⟩ := (pciClass_eq_cmd_iff s.params u a).1 hclass
      cases h
      exact hwrite
    case hbmask =>
      obtain rfl := unit_of_pciClass_hbmask hclass
      cases h
      exact hwrite
    case plain =>
      cases h
      exact hwrite

/-- A read that completes answers and does nothing else (R72). -/
theorem transition_of_ioRead {s t : State} {p : Port} (hlive : s.phase = .live)
    (h : exec (decodeIoRead (decodeContext s) p) s = .next t) : Transition s t := by
  by_cases hclaims : 2 ≤ (portClaims s.chip.hostWin.base s.chip.localWin.base p).length
  · rw [decodeIoRead_of_conflict (c := decodeContext s) hclaims, exec_ioConflict] at h
    cases h
  · obtain ⟨r, hr⟩ := decodeIoRead_answers s (decodeContext s) p (Nat.le_of_not_lt hclaims)
    cases h.symm.trans (exec_of_readAnswer hr)
    exact .read r hlive

/-- A write of a port that completes, by the claims on the port (R100). -/
theorem transition_of_ioWrite {s t : State} {p : Port} {v : Byte} (hlive : s.phase = .live)
    (h : exec (decodeIoWrite (decodeContext s) p v) s = .next t) : Transition s t := by
  unfold decodeIoWrite at h
  split at h
  case h_2 =>
    cases h
    exact .indexWrite v hlive
  case h_3 => exact transition_of_dataWrite hlive h
  case h_4 | h_5 | h_7 | h_8 =>
    cases h
    exact .windowWrite _ _ hlive rfl
  case h_10 => cases h
  all_goals
    cases h
    exact .stay

/-- A reset that completes, with and without RESET_RECALC (R272). -/
theorem transition_systemReset {s : State} (hlive : s.phase = .live) :
    Transition s (systemReset s) := by
  obtain ⟨-, hreset⟩ | ⟨hrecalc, hreset⟩ := systemReset_cases s
  · rw [hreset]
    exact .clearRecalc hlive
  · rw [hreset]
    exact .clear hlive hrecalc

/-! The step. -/

/-- A construction that completes, by its draw (R270, R255). -/
theorem transition_of_poweron {s t : State} (habsent : s.phase = .absent)
    (h : exec .poweron s = .next t) : Transition s t := by
  rw [exec_poweron] at h
  obtain ⟨-, hrefused⟩ | ⟨hwf, -, hlive⟩ | ⟨-, -, hfailed⟩ := execPoweron_cases s
  · cases h.symm.trans hrefused
  · cases h.symm.trans hlive
    exact .construct habsent hwf
  · cases h.symm.trans hfailed
    exact .fail habsent

/-- A transaction that completes, by the phase (R99) and the kind. -/
theorem transition_of_transaction {s t : State} {x : Transaction}
    (h : exec (decodeTransaction (decodeContext s) x) s = .next t) : Transition s t := by
  unfold decodeTransaction at h
  split at h
  case h_1 hlive =>
    rw [decodeContext_phase] at hlive
    cases x with
    | ior p => exact transition_of_ioRead hlive h
    | iow p v => exact transition_of_ioWrite hlive h
    | cfgr d fn a =>
      obtain ⟨r, hr⟩ := decodeCfgRead_answers s (decodeContext s) d fn a
      cases h.symm.trans (exec_of_readAnswer hr)
      exact .read r hlive
    | cfgw d fn a v => exact transition_of_cfgWrite hlive h
    | poweron => cases h
    | reset =>
      cases h
      exact transition_systemReset hlive
    | destroy =>
      cases h
      exact .teardown hlive
  case h_2 habsent =>
    rw [decodeContext_phase] at habsent
    split at h
    case isTrue => exact transition_of_poweron habsent h
    case isFalse => cases h
  case h_3 | h_4 => cases h

/-- Every step that answers a next state takes the queue's head and makes one of these transitions. -/
theorem transition_of_step {s t : State} (h : step s = .next t) : Transition (consume s) t := by
  obtain ⟨hidle, rfl⟩ | ⟨w, rest, i, -, hdecode, hexec⟩ := step_next s t h
  · have hconsume : consume t = t := by rw [consume, hidle, List.tail_nil, ← hidle]
    rw [hconsume]
    exact .stay
  · obtain ⟨x, -, rfl⟩ := transaction_of_decode hdecode
    exact transition_of_transaction hexec

end Sys2Proof.Machine
end

section
/-! PROOFS. What every step keeps, transition by transition: the frame (R31, R41), the window bases
(R202), the masked primary bits (R35) and the protected configuration bytes (R34 (d)). -/

namespace Sys2Proof.Machine

/-! The frame of a step. -/

theorem transition_frame {s t : State} (h : Transition s t) :
    t.params = s.params ∧ t.input = s.input ∧ s.trace <+: t.trace
    ∧ (t.readData = s.readData ∨ ∃ r, t.readData = s.readData ++ [r]) := by
  cases h
  case read r hlive => exact ⟨rfl, rfl, List.prefix_rfl, .inr ⟨r, rfl⟩⟩
  case stay | indexWrite | pciWrite | store | clear | fail =>
    exact ⟨rfl, rfl, List.prefix_rfl, .inl rfl⟩
  case windowWrite | move => simp [moveWindow_trace]
  case shadowWrite | construct | teardown => exact ⟨rfl, rfl, List.prefix_append _ _, .inl rfl⟩
  case smramWrite | clearRecalc =>
    exact ⟨rfl, rfl, (List.prefix_append _ _).trans (List.prefix_append _ _), .inl rfl⟩

/-- Settles O14: the frame of a transition, from the state with the queue's head taken. -/
theorem stepsOnlyAppend : Obligations.StepsOnlyAppend :=
  fun s _ h => transition_frame (s := consume s) (transition_of_step h)

theorem transition_phase {s t : State} (h : Transition s t) :
    t.phase = s.phase
    ∨ (s.phase = .absent ∧ (t.phase = .live ∨ t.phase = .failed))
    ∨ (s.phase = .live ∧ t.phase = .destroyed) := by
  cases h
  case construct habsent hwf => exact .inr (.inl ⟨habsent, .inl rfl⟩)
  case fail habsent => exact .inr (.inl ⟨habsent, .inr rfl⟩)
  case teardown hlive => exact .inr (.inr ⟨hlive, rfl⟩)
  case windowWrite | move => simp
  all_goals exact .inl rfl

/-- Settles O15: construction and teardown alone change the phase. -/
theorem phasesFollowTheLifecycle : Obligations.PhasesFollowTheLifecycle :=
  fun s _ h => transition_phase (s := consume s) (transition_of_step h)

/-! The windows' bases (R202). -/

theorem windowsFit_of_transition {s t : State} (h : Transition s t) (hs : WindowsFit s) :
    WindowsFit t := by
  cases h
  case windowWrite w x hlive hbase =>
    obtain ⟨hhost, hlocal⟩ := withWindow_sameBases s w hbase
    intro _
    rw [hhost, hlocal]
    exact hs hlive
  case move which v w new hlive hfit =>
    obtain ⟨hhost, hlocal⟩ := hs hlive
    intro _
    cases w with
    | hostBus => exact ⟨hfit, hlocal⟩
    | localBus => exact ⟨hhost, hfit⟩
  case construct => exact fun _ => ⟨Nat.zero_le _, Nat.zero_le _⟩
  case fail | teardown => exact nofun
  all_goals exact hs

/-- Settles O54: a base is written by a relocation, which asks for the bound, and by a construction, which
clears it. -/
theorem windowsStayInThePortSpace : Obligations.WindowsStayInThePortSpace :=
  fun s _ hs h => windowsFit_of_transition (s := consume s) (transition_of_step h) hs

/-! The masked bits of the primary registers (R35). -/

/-- What a mask has kept has no bit outside the mask. -/
theorem and_mask_and_not_mask (v m : Byte) : (v &&& m) &&& ~~~ m = 0 := by
  rw [BitVec.and_assoc, BitVec.and_not_self]
  exact BitVec.and_zero

/-- A zero byte is within every mask. -/
theorem zero_and_not_mask (m : Byte) : (0 : Byte) &&& ~~~ m = 0 := BitVec.zero_and

/-- A store through the mask leaves no bit outside it. -/
theorem maskedBitsZero_maskedStore {s : State} (a v : Byte) (hs : MaskedBitsZero s) :
    MaskedBitsZero (maskedStore s a v) := by
  intro hlive x hx
  rw [readIsa_writeIsa, writeIsa_params]
  split
  case isTrue h =>
    rw [h]
    exact and_mask_and_not_mask v _
  case isFalse => exact hs hlive x hx

/-- The registers a reset leaves have bits only in 0x7B (R272). -/
theorem maskedBitsZero_clearRegisters (s : State) : MaskedBitsZero (clearRegisters s) := by
  intro _ x hx
  have hzero : readIsa (clearRegisters s) x = 0 := (read_resetRegisters x).trans (if_neg hx)
  rw [hzero, zero_and_not_mask]

theorem maskedBitsZero_of_transition {s t : State} (h : Transition s t) (hs : MaskedBitsZero s) :
    MaskedBitsZero t := by
  cases h
  case store a v hlive ha => exact maskedBitsZero_maskedStore a v hs
  case shadowWrite a v hlive => exact maskedBitsZero_maskedStore a v hs
  case smramWrite a v en hlive => exact maskedBitsZero_maskedStore a v hs
  case move which v w new hlive hfit =>
    have hstore := maskedBitsZero_maskedStore (baseRegister which) v hs
    cases w <;> exact hstore
  case windowWrite w x hlive hbase => cases w <;> exact hs
  case clear | clearRecalc => exact maskedBitsZero_clearRegisters s
  case construct =>
    intro _ x _
    rw [readIsa_construct, zero_and_not_mask]
  case fail | teardown => exact nofun
  all_goals exact hs

/-- Settles O52: every primary store goes through the mask. -/
theorem maskedBitsStayZero : Obligations.MaskedBitsStayZero :=
  fun s _ hs h => maskedBitsZero_of_transition (s := consume s) (transition_of_step h) hs

/-! The protected configuration bytes (R34 (d)). -/

/-- In a well-formed set the host bridge's own addresses are none of RO_BASE and not the command
register (R12). -/
theorem hbAddrs_of_wf {p : Params} (hwf : p.wf = true) {a : Byte} (ha : a ∈ p.hbAddrs) :
    a ∉ Config.roBase ∧ a ≠ Config.pciCmd := by
  simp only [Params.wf, Bool.and_eq_true, List.all_eq_true] at hwf
  obtain ⟨⟨-, haddrs⟩, -⟩ := hwf
  simpa using haddrs a ha

/-- A masked address is one of the host bridge's own (R227). -/
theorem mem_hbAddrs_of_hbMask {p : Params} {a m : Byte} (h : hbMask p a = some m) : a ∈ p.hbAddrs := by
  unfold hbMask at h
  split_ifs at h with h0 h1
  · simp [Params.hbAddrs, h0]
  · simp [Params.hbAddrs, h1]

/-- Right after construction a byte outside RO_BASE is zero (R222). -/
theorem constructionByte_of_not_roBase (p : Params) (u : PciUnit) {a : Byte} (h : a ∉ Config.roBase) :
    constructionByte p u a = 0 := by
  have hsub : ∀ x ∈ identityAddrs, x ∈ Config.roBase := by decide
  exact constructionByte_of_not_identity p u a fun ha => h (hsub a ha)

/-- A write at function index 0 keeps within the masks of R226 and R227. -/
theorem pciByteAfterWrite_masked {s : State} (hwf : s.params.wf = true) {u : PciUnit} {a : Byte}
    (v : Byte) (hwritable : pciReadOnly s.params u a = false) :
    (a = Config.pciCmd → pciByteAfterWrite s u a v &&& ~~~ commandMask s.params u = 0)
    ∧ ∀ m, u = .hb → hbMask s.params a = some m → pciByteAfterWrite s u a v &&& ~~~ m = 0 := by
  rw [pciByteAfterWrite_eq_ite, hwritable, if_neg Bool.false_ne_true]
  refine ⟨fun hcmd => ?_, fun m hu hm => ?_⟩
  · rw [if_pos (show a = 0x04 from hcmd)]
    exact and_mask_and_not_mask v _
  · obtain ⟨-, hcmd⟩ := hbAddrs_of_wf hwf (mem_hbAddrs_of_hbMask hm)
    have hmasked : u = .hb ∧ (hbMask s.params a).isSome := ⟨hu, by rw [hm]; rfl⟩
    rw [if_neg (show a ≠ 0x04 from hcmd), if_pos hmasked, hm]
    exact and_mask_and_not_mask v m

theorem pciBytesProtected_writePci {s : State} {u : PciUnit} {a : Byte} (v : Byte)
    (hwf : s.params.wf = true) (hwritable : pciReadOnly s.params u a = false)
    (hlive : s.phase = .live) (hs : PciBytesProtected s) :
    PciBytesProtected (writePci s u a (pciByteAfterWrite s u a v)) := by
  obtain ⟨hro, hcmd, hmasked⟩ := hs hlive
  obtain ⟨hcmdByte, hmaskedByte⟩ := pciByteAfterWrite_masked hwf v hwritable
  intro _
  simp only [readPci_writePci, writePci_params]
  refine ⟨fun w x hx => ?_, fun w => ?_, fun x m hm => ?_⟩
  · split
    case isTrue h =>
      obtain ⟨rfl, rfl⟩ := h
      cases hx.symm.trans hwritable
    case isFalse => exact hro w x hx
  · split
    case isTrue h =>
      obtain ⟨rfl, rfl⟩ := h
      exact hcmdByte rfl
    case isFalse => exact hcmd w
  · split
    case isTrue h =>
      obtain ⟨rfl, rfl⟩ := h
      exact hmaskedByte m rfl hm
    case isFalse => exact hmasked x m hm

/-- A construction leaves every byte at its construction value, which is zero at the masked addresses. -/
theorem pciBytesProtected_construct {s : State} (hwf : s.params.wf = true) :
    PciBytesProtected (construct s) := by
  intro _
  simp only [readPci_construct, construct_params]
  refine ⟨fun _ _ _ => trivial, fun u => ?_, fun a m hm => ?_⟩
  · rw [constructionByte_of_not_roBase s.params u (by decide), zero_and_not_mask]
  · obtain ⟨hro, -⟩ := hbAddrs_of_wf hwf (mem_hbAddrs_of_hbMask hm)
    rw [constructionByte_of_not_roBase s.params .hb hro, zero_and_not_mask]

theorem liveParametersWellFormed_of_transition {s t : State} (h : Transition s t)
    (hs : LiveParametersWellFormed s) : LiveParametersWellFormed t := by
  cases h
  case construct habsent hwf => exact fun _ => hwf
  case windowWrite w x hlive hbase => cases w <;> exact hs
  case move which v w new hlive hfit => cases w <;> exact hs
  case fail | teardown => exact nofun
  all_goals exact hs

theorem pciBytesProtected_of_transition {s t : State} (h : Transition s t)
    (hwf : LiveParametersWellFormed s) (hs : PciBytesProtected s) : PciBytesProtected t := by
  cases h
  case pciWrite u a v hlive hwritable =>
    exact pciBytesProtected_writePci v (hwf hlive) hwritable hlive hs
  case construct habsent hparams =>
    exact pciBytesProtected_construct (s := drawConstruction s) hparams
  case windowWrite w x hlive hbase => cases w <;> exact hs
  case move which v w new hlive hfit => cases w <;> exact hs
  case fail | teardown => exact nofun
  all_goals exact hs

/-- Settles O53: only a configuration write changes these bytes, and only a construction makes a block
live, on a well-formed set. -/
theorem pciBytesStayProtected : Obligations.PciBytesStayProtected := by
  intro s t hwf hs h
  have htransition := transition_of_step h
  exact ⟨liveParametersWellFormed_of_transition (s := consume s) htransition hwf,
    pciBytesProtected_of_transition (s := consume s) htransition hwf hs⟩

end Sys2Proof.Machine
end

section
/-! PROOFS. What the collaborators hold, replayed from the trace: the port dispatcher's ranges (R34 (b),
R203, R208) and the PCI bus manager's units (R220, R273). -/

namespace Sys2Proof.Machine

/-! The port dispatcher's table, call by call. -/

/-- A call to the PCI bus manager. -/
def isPciCall : Effect → Bool
  | .pciReg _ _ => true
  | .pciRelease _ => true
  | _ => false

theorem heldBy_concat_portReg (o owner : Owner) (tr : List Effect) (b : Port) (n : Nat) :
    heldBy o (tr ++ [Effect.portReg b n owner])
      = heldBy o tr ++ if owner = o then [⟨b, n, owner⟩] else [] := by
  have htable : portTable (tr ++ [Effect.portReg b n owner]) = portTable tr ++ [⟨b, n, owner⟩] :=
    portTable_append tr _
  rw [heldBy, htable, List.filter_append, heldBy]
  by_cases h : owner = o <;> simp [h]

/-- Unregistering a range takes it from the ranges of its owner; the other owners do not hold it. -/
theorem heldBy_concat_portUnreg (o owner : Owner) (tr : List Effect) (b : Port) (n : Nat) :
    heldBy o (tr ++ [Effect.portUnreg b n owner]) = (heldBy o tr).erase ⟨b, n, owner⟩ := by
  rw [heldBy, portTable_append]
  exact List.erase_filter.symm

theorem heldBy_concat_pciCall (o : Owner) (tr : List Effect) {e : Effect} (h : isPciCall e = true) :
    heldBy o (tr ++ [e]) = heldBy o tr := by
  rw [heldBy, portTable_append]
  cases e
  case pciReg | pciRelease => rfl
  all_goals cases h

theorem heldBy_concat_shadowCall (o : Owner) (tr : List Effect) {e : Effect}
    (h : isShadowCall e = true) : heldBy o (tr ++ [e]) = heldBy o tr := by
  rw [heldBy, portTable_append, List.foldl_cons, portTableStep_of_shadowCall _ h]
  rfl

theorem heldBy_append_pciCalls (o : Owner) (tr : List Effect) {es : List Effect}
    (h : ∀ e ∈ es, isPciCall e = true) : heldBy o (tr ++ es) = heldBy o tr := by
  induction es generalizing tr with
  | nil => rw [List.append_nil]
  | cons e rest ih =>
    rw [List.forall_mem_cons] at h
    obtain ⟨hfirst, hrest⟩ := h
    rw [List.append_cons, ih _ hrest, heldBy_concat_pciCall o tr hfirst]

/-! The calls of a relocation. -/

/-- The ranges of a window mapped at `base` (R27): none where it is disabled. -/
def windowRanges (w : WindowId) (base : Port) : List PortRange :=
  if base = 0 then [] else [⟨base, 5, w.owner⟩]

theorem heldBy_relocate_self {tr : List Effect} {w : WindowId} {old : Port} (new : Port)
    (h : heldBy w.owner tr = windowRanges w old) :
    heldBy w.owner (tr ++ relocateEffects w old new) = windowRanges w new := by
  have hreleased : heldBy w.owner (tr ++ if old = 0 then [] else [Effect.portUnreg old 5 w.owner])
      = [] := by
    by_cases hold : old = 0
    · rw [if_pos hold, List.append_nil, h, windowRanges, if_pos hold]
    · rw [if_neg hold, heldBy_concat_portUnreg, h, windowRanges, if_neg hold, List.erase_cons_head]
  rw [relocateEffects_eq, ← List.append_assoc, windowRanges]
  by_cases hnew : new = 0
  · rw [if_pos hnew, if_pos hnew, List.append_nil, hreleased]
  · rw [if_neg hnew, if_neg hnew, heldBy_concat_portReg, hreleased, if_pos rfl, List.nil_append]

/-- An owner holds no range of another one. -/
theorem not_mem_heldBy_of_ne {o owner : Owner} (h : owner ≠ o) (tr : List Effect) (b : Port)
    (n : Nat) : (⟨b, n, owner⟩ : PortRange) ∉ heldBy o tr := by
  simp [heldBy, h]

theorem heldBy_relocate_other {o : Owner} (tr : List Effect) {w : WindowId} (old new : Port)
    (h : w.owner ≠ o) : heldBy o (tr ++ relocateEffects w old new) = heldBy o tr := by
  have hreleased : heldBy o (tr ++ if old = 0 then [] else [Effect.portUnreg old 5 w.owner])
      = heldBy o tr := by
    by_cases hold : old = 0
    · rw [if_pos hold, List.append_nil]
    · rw [if_neg hold, heldBy_concat_portUnreg,
        List.erase_of_not_mem (not_mem_heldBy_of_ne h tr _ _)]
  rw [relocateEffects_eq, ← List.append_assoc]
  by_cases hnew : new = 0
  · rw [if_pos hnew, List.append_nil, hreleased]
  · rw [if_neg hnew, heldBy_concat_portReg, hreleased, if_neg h, List.append_nil]

/-! The ranges that the bases ask for. -/

theorem expectedRanges_window {s : State} (hlive : s.phase = .live) (w : WindowId) :
    expectedRanges s w.owner = windowRanges w (window s w).base := by
  cases w <;> simp only [expectedRanges, hlive, WindowId.owner] <;> rfl

/-- Phase and bases are all that the expected ranges depend on. -/
theorem expectedRanges_congr {s t : State} (hphase : t.phase = s.phase) (hbases : SameBases s t)
    (o : Owner) : expectedRanges t o = expectedRanges s o := by
  obtain ⟨hhost, hlocal⟩ := hbases
  simp only [expectedRanges, hphase, hhost, hlocal]

/-- A window's move leaves what the other owners should hold. -/
theorem expectedRanges_moveWindow_other {o : Owner} {s : State} {w : WindowId} (new : Port)
    (hlive : s.phase = .live) (h : w.owner ≠ o) :
    expectedRanges (moveWindow s w new) o = expectedRanges s o := by
  have hmoved : (moveWindow s w new).phase = .live := (moveWindow_phase s w new).trans hlive
  cases w <;> cases o
  case hostBus.hostBus | localBus.localBus => exact absurd rfl h
  all_goals simp only [expectedRanges, hmoved, hlive]
  all_goals rfl

/-- A block that is not live should hold nothing. -/
theorem expectedRanges_of_not_live {s : State} (h : s.phase ≠ .live) (o : Owner) :
    expectedRanges s o = [] := by
  cases hphase : s.phase
  case live => exact absurd hphase h
  all_goals simp only [expectedRanges, hphase]

theorem length_expectedRanges_le (s : State) (o : Owner) : (expectedRanges s o).length ≤ 1 := by
  by_cases hlive : s.phase = .live
  · cases o <;> simp only [expectedRanges, hlive]
    case primary => exact Nat.le_refl 1
    all_goals split <;> simp
  · rw [expectedRanges_of_not_live hlive]
    exact Nat.zero_le 1

/-! R34 (b): the ranges held are the ranges that the bases ask for. -/

theorem silentUnlessConstructed_of_transition {s t : State} (h : Transition s t)
    (hs : SilentUnlessConstructed s) : SilentUnlessConstructed t := by
  cases h
  case fail habsent => exact fun _ => hs (.inl habsent)
  case windowWrite w x hlive hbase => cases w <;> exact hs
  case construct | teardown => simp [SilentUnlessConstructed]
  case shadowWrite hlive | smramWrite hlive | clearRecalc hlive | move hlive hfit =>
    simp [SilentUnlessConstructed, hlive]
  all_goals exact hs

/-- Calls of recalculations and forwards leave the ranges, and so do unchanged bases. -/
theorem registrationsAgree_of_shadowCalls {s t : State} (hs : RegistrationsAgree s)
    (hcalls : AddsOnlyShadowCalls s t) (hphase : t.phase = s.phase) (hbases : SameBases s t) :
    RegistrationsAgree t := by
  intro o
  rw [heldBy_of_addsOnlyShadowCalls o hcalls, hs o, expectedRanges_congr hphase hbases]

theorem registrationsAgree_moveWindow {s : State} (w : WindowId) (new : Port)
    (hlive : s.phase = .live) (hs : RegistrationsAgree s) :
    RegistrationsAgree (moveWindow s w new) := by
  intro o
  rw [moveWindow_trace]
  by_cases howner : w.owner = o
  · subst howner
    have hheld : heldBy w.owner s.trace = windowRanges w (window s w).base := by
      rw [hs, expectedRanges_window hlive]
    rw [heldBy_relocate_self new hheld,
      expectedRanges_window ((moveWindow_phase s w new).trans hlive), moveWindow_window]
  · rw [heldBy_relocate_other s.trace _ new howner, hs o,
      expectedRanges_moveWindow_other new hlive howner]

/-- An SMRAM forward and the recalculation after it, on a state that has made no call. -/
theorem addsOnlyShadowCalls_forward_recalc {s m : State} (en : Bool) (h : m.trace = s.trace) :
    AddsOnlyShadowCalls s (recalc (smramForward m en)) :=
  addsOnlyShadowCalls_recalc (addsOnlyShadowCalls_smramForward en (addsOnlyShadowCalls_of_trace_eq h))

/-- A construction registers the primary ports alone, from an empty table. -/
theorem registrationsAgree_construct {s : State} (hsilent : s.trace = []) :
    RegistrationsAgree (construct s) := by
  intro o
  rw [construct_trace, hsilent]
  cases o <;> rfl

/-- The calls of a teardown: each window is released as if it moved to base 0. -/
theorem teardownEffects_eq_relocate (p : Params) (hostBase localBase : Port) :
    teardownEffects p hostBase localBase
      = relocateEffects WindowId.hostBus hostBase 0 ++ relocateEffects WindowId.localBus localBase 0
        ++ [Effect.portUnreg 0x22 2 .primary]
        ++ [Effect.pciRelease p.slotHb, .pciRelease p.slotBr, .pciRelease p.slotSt] := by
  simp only [teardownEffects_eq, relocateEffects_eq, if_true, List.append_nil, List.append_assoc]
  rfl

theorem registrationsAgree_teardown {s : State} (hlive : s.phase = .live)
    (hs : RegistrationsAgree s) : RegistrationsAgree (teardown s) := by
  have hhost : heldBy WindowId.hostBus.owner s.trace
      = windowRanges .hostBus s.chip.hostWin.base :=
    (hs _).trans (expectedRanges_window hlive .hostBus)
  have hlocal : heldBy WindowId.localBus.owner s.trace
      = windowRanges .localBus s.chip.localWin.base :=
    (hs _).trans (expectedRanges_window hlive .localBus)
  have hprimary : heldBy .primary s.trace = [⟨0x22, 2, .primary⟩] := by
    rw [hs]
    simp only [expectedRanges, hlive]
  have hrest (o : Owner) (ho : WindowId.hostBus.owner ≠ o) :
      heldBy o (s.trace ++ relocateEffects WindowId.hostBus s.chip.hostWin.base 0) = heldBy o s.trace :=
    heldBy_relocate_other s.trace _ 0 ho
  intro o
  rw [expectedRanges_of_not_live (s := teardown s) (by simp), teardown_trace,
    teardownEffects_eq_relocate, ← List.append_assoc, ← List.append_assoc, ← List.append_assoc,
    heldBy_append_pciCalls _ _ (by simp [isPciCall]), heldBy_concat_portUnreg]
  cases o with
  | primary =>
    rw [heldBy_relocate_other (w := .localBus) _ _ _ (by decide), hrest _ (by decide), hprimary,
      List.erase_cons_head]
  | hostBus =>
    have hreleased : heldBy .hostBus
        (s.trace ++ relocateEffects WindowId.hostBus s.chip.hostWin.base 0) = [] :=
      heldBy_relocate_self 0 hhost
    rw [heldBy_relocate_other (w := .localBus) _ _ _ (by decide), hreleased, List.erase_nil]
  | localBus =>
    have hreleased : heldBy .localBus (s.trace ++ relocateEffects WindowId.hostBus s.chip.hostWin.base 0
        ++ relocateEffects WindowId.localBus s.chip.localWin.base 0) = [] :=
      heldBy_relocate_self 0 ((hrest _ (by decide)).trans hlocal)
    rw [hreleased, List.erase_nil]

theorem registrationsAgree_of_transition {s t : State} (h : Transition s t)
    (hsilent : SilentUnlessConstructed s) (hs : RegistrationsAgree s) : RegistrationsAgree t := by
  cases h
  case windowWrite w x hlive hbase =>
    exact registrationsAgree_of_shadowCalls hs
      (addsOnlyShadowCalls_of_trace_eq (withWindow_trace s w x)) (withWindow_phase s w x)
      (withWindow_sameBases s w hbase)
  case shadowWrite a v hlive =>
    exact registrationsAgree_of_shadowCalls hs
      (addsOnlyShadowCalls_recalc (addsOnlyShadowCalls_of_trace_eq rfl)) rfl ⟨rfl, rfl⟩
  case smramWrite | clearRecalc =>
    exact registrationsAgree_of_shadowCalls hs (addsOnlyShadowCalls_forward_recalc _ rfl) rfl
      ⟨rfl, rfl⟩
  case move which v w new hlive hfit =>
    have hstored : RegistrationsAgree (maskedStore s (baseRegister which) v) := hs
    exact registrationsAgree_moveWindow w new hlive hstored
  case construct habsent hwf =>
    exact registrationsAgree_construct (s := drawConstruction s) (hsilent (.inl habsent))
  case fail habsent =>
    have hdead : s.phase ≠ .live := by simp [habsent]
    intro o
    rw [expectedRanges_of_not_live (by simp) o, ← expectedRanges_of_not_live hdead o]
    exact hs o
  case teardown hlive => exact registrationsAgree_teardown hlive hs
  all_goals exact hs

/-- Settles O47: a move registers what the new base asks for, and construction and teardown start from and
end in an empty table. -/
theorem registrationsAgreeIsKept : Obligations.RegistrationsAgreeIsKept := by
  intro s t hsilent hs h
  have htransition := transition_of_step h
  exact ⟨silentUnlessConstructed_of_transition (s := consume s) htransition hsilent,
    registrationsAgree_of_transition (s := consume s) htransition hsilent hs⟩

/-! R203: at no point of the trace does an owner hold two ranges. -/

/-- Replaying any part of the trace from its start leaves every owner with at most one range. -/
def HoldsAtMostOne (tr : List Effect) : Prop :=
  ∀ done, done <+: tr → ∀ o, (heldBy o done).length ≤ 1

/-- One more call keeps the bound where the table after it has it. -/
theorem holdsAtMostOne_concat {tr : List Effect} {e : Effect} (h : HoldsAtMostOne tr)
    (hlast : ∀ o, (heldBy o (tr ++ [e])).length ≤ 1) : HoldsAtMostOne (tr ++ [e]) := by
  intro done hdone
  obtain rfl | hearlier := List.prefix_concat_iff.1 hdone
  · exact hlast
  · exact h done hearlier

/-- A call that registers a port range. -/
def registersPorts : Effect → Bool
  | .portReg _ _ _ => true
  | _ => false

/-- Only a registration lengthens what an owner holds. -/
theorem length_heldBy_concat_le (o : Owner) (tr : List Effect) {e : Effect}
    (h : registersPorts e = false) : (heldBy o (tr ++ [e])).length ≤ (heldBy o tr).length := by
  cases e
  case portReg => cases h
  case portUnreg =>
    rw [heldBy_concat_portUnreg]
    exact List.length_erase_le
  case regionSet | smramSet | invalidate => rw [heldBy_concat_shadowCall o tr rfl]
  case pciReg | pciRelease => rw [heldBy_concat_pciCall o tr rfl]

theorem holdsAtMostOne_append {tr es : List Effect} (h : HoldsAtMostOne tr)
    (hes : ∀ e ∈ es, registersPorts e = false) : HoldsAtMostOne (tr ++ es) := by
  induction es generalizing tr with
  | nil => rwa [List.append_nil]
  | cons e rest ih =>
    rw [List.forall_mem_cons] at hes
    obtain ⟨hfirst, hrest⟩ := hes
    rw [List.append_cons]
    exact ih (holdsAtMostOne_concat h fun o =>
      (length_heldBy_concat_le o tr hfirst).trans (h tr List.prefix_rfl o)) hrest

/-- A recalculation's or forward's call reaches neither the port dispatcher nor the PCI bus manager. -/
theorem otherCall_of_shadowCall {e : Effect} (h : isShadowCall e = true) :
    registersPorts e = false ∧ isPciCall e = false := by
  cases e
  case regionSet | smramSet | invalidate => exact ⟨rfl, rfl⟩
  all_goals cases h

theorem holdsAtMostOne_of_shadowCalls {s t : State} (hs : HoldsAtMostOne s.trace)
    (hcalls : AddsOnlyShadowCalls s t) : HoldsAtMostOne t.trace := by
  obtain ⟨calls, htrace, hshadow⟩ := hcalls
  rw [htrace]
  exact holdsAtMostOne_append hs fun e he => (otherCall_of_shadowCall (hshadow e he)).1

theorem teardownEffects_register_nothing (p : Params) (hostBase localBase : Port) :
    ∀ e ∈ teardownEffects p hostBase localBase, registersPorts e = false := by
  unfold teardownEffects
  split_ifs <;> simp [registersPorts]

/-- A relocation releases first, so the bound holds before its registration; after it the table is the
one given. -/
theorem holdsAtMostOne_relocate {tr : List Effect} (w : WindowId) (old new : Port)
    (h : HoldsAtMostOne tr)
    (hafter : ∀ o, (heldBy o (tr ++ relocateEffects w old new)).length ≤ 1) :
    HoldsAtMostOne (tr ++ relocateEffects w old new) := by
  rw [relocateEffects_eq, ← List.append_assoc] at hafter ⊢
  have hreleased : HoldsAtMostOne (tr ++ if old = 0 then [] else [Effect.portUnreg old 5 w.owner]) :=
    holdsAtMostOne_append h (by split_ifs <;> simp [registersPorts])
  by_cases hnew : new = 0
  · rw [if_pos hnew, List.append_nil]
    exact hreleased
  · rw [if_neg hnew] at hafter ⊢
    exact holdsAtMostOne_concat hreleased hafter

theorem holdsAtMostOne_nil : HoldsAtMostOne [] := by
  intro done hdone o
  rw [List.prefix_nil.1 hdone]
  exact Nat.zero_le 1

/-- A construction from an empty table registers one range, and then units only. -/
theorem holdsAtMostOne_powerOn (p : Params) : HoldsAtMostOne (powerOnEffects p) := by
  have hports :
      HoldsAtMostOne ([] ++ [Effect.portReg Config.isaIndexPort Config.primarySpan .primary]) :=
    holdsAtMostOne_concat holdsAtMostOne_nil fun o => by cases o <;> decide
  exact holdsAtMostOne_append (es := [.pciReg p.slotHb .hb, .pciReg p.slotBr .br, .pciReg p.slotSt .st])
    hports (by simp [registersPorts])

theorem neverDoubleRegistered_of_transition {s t : State} (h : Transition s t)
    (hsilent : SilentUnlessConstructed s) (hagree : RegistrationsAgree s)
    (hs : NeverDoubleRegistered s) : NeverDoubleRegistered t := by
  have hagree' : RegistrationsAgree t := registrationsAgree_of_transition h hsilent hagree
  change HoldsAtMostOne s.trace at hs
  change HoldsAtMostOne t.trace
  cases h
  case windowWrite w x hlive hbase =>
    rw [withWindow_trace]
    exact hs
  case shadowWrite a v hlive =>
    exact holdsAtMostOne_of_shadowCalls hs
      (addsOnlyShadowCalls_recalc (addsOnlyShadowCalls_of_trace_eq rfl))
  case smramWrite | clearRecalc =>
    exact holdsAtMostOne_of_shadowCalls hs (addsOnlyShadowCalls_forward_recalc _ rfl)
  case move which v w new hlive hfit =>
    have hstored : HoldsAtMostOne (maskedStore s (baseRegister which) v).trace := hs
    rw [moveWindow_trace]
    refine holdsAtMostOne_relocate w _ new hstored fun o => ?_
    rw [← moveWindow_trace, hagree' o]
    exact length_expectedRanges_le _ o
  case construct habsent hwf =>
    have htrace : (construct (drawConstruction s)).trace = powerOnEffects s.params := by
      rw [construct_trace, drawConstruction_trace, hsilent (.inl habsent)]
      rfl
    rw [htrace]
    exact holdsAtMostOne_powerOn s.params
  case teardown hlive => exact holdsAtMostOne_append hs (teardownEffects_register_nothing _ _ _)
  all_goals exact hs

/-- Settles O48: only a relocation and a construction register a range, the one after releasing the old
one, the other into an empty table. -/
theorem neverDoubleRegisteredIsKept : Obligations.NeverDoubleRegisteredIsKept :=
  fun s _ hsilent hagree hs h =>
    neverDoubleRegistered_of_transition (s := consume s) (transition_of_step h) hsilent hagree hs

/-! R220: the PCI bus manager's table. -/

theorem foldl_pciTableStep_of_otherCalls (table : List (Slot × PciUnit)) {calls : List Effect}
    (h : ∀ e ∈ calls, isPciCall e = false) : calls.foldl pciTableStep table = table := by
  induction calls with
  | nil => rfl
  | cons e rest ih =>
    rw [List.forall_mem_cons] at h
    obtain ⟨hfirst, hrest⟩ := h
    have hstep : pciTableStep table e = table := by
      cases e
      case pciReg | pciRelease => cases hfirst
      all_goals rfl
    rw [List.foldl_cons, hstep]
    exact ih hrest

theorem pciTable_append_of_otherCalls (tr : List Effect) {calls : List Effect}
    (h : ∀ e ∈ calls, isPciCall e = false) : pciTable (tr ++ calls) = pciTable tr := by
  rw [pciTable_append, foldl_pciTableStep_of_otherCalls _ h]

theorem relocateEffects_no_pciCall (w : WindowId) (old new : Port) :
    ∀ e ∈ relocateEffects w old new, isPciCall e = false := by
  unfold relocateEffects
  split_ifs <;> simp [isPciCall]

/-- The three units at their slots (R220). -/
def unitTable (p : Params) : List (Slot × PciUnit) :=
  [(p.slotHb, .hb), (p.slotBr, .br), (p.slotSt, .st)]

/-- The four registrations of a construction add the three units. -/
theorem pciTable_append_powerOn (tr : List Effect) (p : Params) :
    pciTable (tr ++ powerOnEffects p) = pciTable tr ++ unitTable p := by
  simp [pciTable_append, powerOnEffects, pciTableStep, unitTable]

/-- A teardown's calls release each unit, whatever the bases (R273). -/
theorem pciTable_append_teardown {tr : List Effect} {p : Params} (hostBase localBase : Port)
    (h : pciTable tr = unitTable p) :
    pciTable (tr ++ teardownEffects p hostBase localBase) = [] := by
  have hports : pciTable (tr ++ relocateEffects WindowId.hostBus hostBase 0
      ++ relocateEffects WindowId.localBus localBase 0 ++ [Effect.portUnreg 0x22 2 .primary])
        = unitTable p := by
    rw [pciTable_append_of_otherCalls _ (List.forall_mem_singleton.2 rfl),
      pciTable_append_of_otherCalls _ (relocateEffects_no_pciCall _ _ _),
      pciTable_append_of_otherCalls _ (relocateEffects_no_pciCall _ _ _), h]
  rw [teardownEffects_eq_relocate, ← List.append_assoc, ← List.append_assoc, ← List.append_assoc,
    pciTable_append, hports]
  simp only [List.foldl_cons, List.foldl_nil, pciTableStep, List.filter_filter,
    List.filter_eq_nil_iff]
  simp [unitTable]

/-- Calls that do not reach the PCI bus manager, in a live block, keep the agreement. -/
theorem pciRegistrationsAgree_of_otherCalls {s t : State} {calls : List Effect}
    (hs : PciRegistrationsAgree s) (htrace : t.trace = s.trace ++ calls)
    (hcalls : ∀ e ∈ calls, isPciCall e = false) (hphase : t.phase = s.phase)
    (hparams : t.params = s.params) : PciRegistrationsAgree t := by
  rw [PciRegistrationsAgree, htrace, pciTable_append_of_otherCalls _ hcalls, hphase, hparams]
  exact hs

theorem pciRegistrationsAgree_of_shadowCalls {s t : State} (hs : PciRegistrationsAgree s)
    (hcalls : AddsOnlyShadowCalls s t) (hphase : t.phase = s.phase) (hparams : t.params = s.params) :
    PciRegistrationsAgree t := by
  obtain ⟨calls, htrace, hshadow⟩ := hcalls
  exact pciRegistrationsAgree_of_otherCalls hs htrace
    (fun e he => (otherCall_of_shadowCall (hshadow e he)).2) hphase hparams

theorem pciRegistrationsAgree_of_transition {s t : State} (h : Transition s t)
    (hs : PciRegistrationsAgree s) : PciRegistrationsAgree t := by
  cases h
  case windowWrite w x hlive hbase => cases w <;> exact hs
  case shadowWrite a v hlive =>
    exact pciRegistrationsAgree_of_shadowCalls hs
      (addsOnlyShadowCalls_recalc (addsOnlyShadowCalls_of_trace_eq rfl)) rfl rfl
  case smramWrite | clearRecalc =>
    exact pciRegistrationsAgree_of_shadowCalls hs (addsOnlyShadowCalls_forward_recalc _ rfl) rfl rfl
  case move which v w new hlive hfit =>
    have hstored : PciRegistrationsAgree (maskedStore s (baseRegister which) v) := hs
    exact pciRegistrationsAgree_of_otherCalls hstored (moveWindow_trace _ w new)
      (relocateEffects_no_pciCall w _ _) (moveWindow_phase _ w new) (moveWindow_params _ w new)
  case construct habsent hwf =>
    have hempty : pciTable s.trace = [] := by simpa [PciRegistrationsAgree, habsent] using hs
    have hbuilt : pciTable (s.trace ++ powerOnEffects s.params) = unitTable s.params := by
      rw [pciTable_append_powerOn, hempty, List.nil_append]
    exact hbuilt.trans (if_pos rfl).symm
  case fail habsent => simpa [PciRegistrationsAgree, habsent] using hs
  case teardown hlive =>
    have htable : pciTable s.trace = unitTable s.params := by
      simpa [PciRegistrationsAgree, hlive, unitTable] using hs
    exact (pciTable_append_teardown _ _ htable).trans (if_neg nofun).symm
  all_goals exact hs

/-- Settles O49: construction and teardown alone call the PCI bus manager, for all three units. -/
theorem pciRegistrationsAgreeIsKept : Obligations.PciRegistrationsAgreeIsKept :=
  fun s _ hs h => pciRegistrationsAgree_of_transition (s := consume s) (transition_of_step h) hs

end Sys2Proof.Machine
end

section
/-! PROOFS. The derived state: what the address-space manager was last given (R28, R29), the shadow-control
bytes it comes from (R34 (c), R185), and the rows that write SMRAM_REG or recalculate twice (R157, R187). -/

namespace Sys2Proof.Machine

/-! R28, R29: the region state and the SMRAM status are the last ones of the trace. -/

/-- A call that is no recalculation's or forward's reaches no region and no SMRAM status. -/
theorem steps_of_otherCall {e : Effect} (h : isShadowCall e = false) (base : PhysAddr)
    (acc : RegionStatus) (smram : SmramStatus) :
    regionStep base acc e = acc ∧ smramStep smram e = smram := by
  cases e
  case regionSet | smramSet | invalidate => cases h
  all_goals exact ⟨rfl, rfl⟩

theorem last_append_of_otherCalls (base : PhysAddr) (tr : List Effect) {calls : List Effect}
    (h : ∀ e ∈ calls, isShadowCall e = false) :
    lastRegion base (tr ++ calls) = lastRegion base tr ∧ lastSmram (tr ++ calls) = lastSmram tr := by
  induction calls generalizing tr with
  | nil => simp
  | cons e rest ih =>
    rw [List.forall_mem_cons] at h
    obtain ⟨hfirst, hrest⟩ := h
    obtain ⟨hregion, hsmram⟩ := ih (tr ++ [e]) hrest
    obtain ⟨hregionStep, hsmramStep⟩ :=
      steps_of_otherCall hfirst base (lastRegion base tr) (lastSmram tr)
    rw [List.append_cons, hregion, hsmram, lastRegion_append, lastSmram_append]
    exact ⟨hregionStep, hsmramStep⟩

/-- Other calls, with the region state and the SMRAM status unchanged, keep the agreement. -/
theorem appliedStateAgrees_of_otherCalls {s t : State} (hs : AppliedStateAgrees s)
    (hcalls : AddsNoShadowCall s t) (hregion : t.region = s.region)
    (hsmram : t.smramVisible = s.smramVisible) : AppliedStateAgrees t := by
  obtain ⟨calls, htrace, hother⟩ := hcalls
  obtain ⟨hregions, hvisible⟩ := hs
  rw [AppliedStateAgrees, htrace, hregion, hsmram]
  refine ⟨fun r hr => ?_, ?_⟩
  · rw [(last_append_of_otherCalls r.base s.trace hother).1]
    exact hregions r hr
  · rw [(last_append_of_otherCalls 0 s.trace hother).2]
    exact hvisible

/-- A recalculation re-applies every region, so the SMRAM status alone must agree before it. -/
theorem appliedStateAgrees_recalc {m : State} (h : m.smramVisible = lastSmram m.trace) :
    AppliedStateAgrees (recalc m) := by
  refine ⟨fun r hr => ?_, ?_⟩
  · rw [recalc_region, regionStates_row _ r hr, recalc_trace, lastRegion_append,
      foldl_recalc_region _ r hr]
  · rw [recalc_smramVisible, h, recalc_trace, lastSmram_append, foldl_recalc_smram]

/-- A forward is the last one of the trace it joins (R188). -/
theorem smramVisible_smramForward (m : State) (en : Bool) :
    (smramForward m en).smramVisible = lastSmram (smramForward m en).trace := by
  rw [smramForward_trace, lastSmram_append]
  rfl

/-- A construction starts from no call at all, and its own give no region and no SMRAM status. -/
theorem appliedStateAgrees_construct {s : State} (hsilent : s.trace = []) :
    AppliedStateAgrees (construct s) := by
  rw [AppliedStateAgrees, construct_trace, hsilent]
  exact ⟨fun r _ => unknownRegions_get r.k, rfl⟩

theorem appliedStateAgrees_of_transition {s t : State} (h : Transition s t)
    (hsilent : SilentUnlessConstructed s) (hs : AppliedStateAgrees s) : AppliedStateAgrees t := by
  cases h
  case windowWrite w x hlive hbase => cases w <;> exact hs
  case shadowWrite a v hlive => exact appliedStateAgrees_recalc hs.2
  case smramWrite a v en hlive => exact appliedStateAgrees_recalc (smramVisible_smramForward _ en)
  case clearRecalc hlive => exact appliedStateAgrees_recalc (smramVisible_smramForward _ false)
  case move which v w new hlive hfit =>
    exact appliedStateAgrees_of_otherCalls (s := maskedStore s (baseRegister which) v) hs
      ⟨_, moveWindow_trace _ w new, relocateEffects_no_shadowCall w _ _⟩
      (moveWindow_region _ w new) (moveWindow_smramVisible _ w new)
  case construct habsent hwf =>
    exact appliedStateAgrees_construct (s := drawConstruction s) (hsilent (.inl habsent))
  case teardown hlive =>
    exact appliedStateAgrees_of_otherCalls hs ⟨_, rfl, teardownEffects_no_shadowCall _ _ _⟩ rfl rfl
  all_goals exact hs

/-- Settles O50: the region state and the SMRAM status are written where the calls are made. -/
theorem appliedStateAgreesIsKept : Obligations.AppliedStateAgreesIsKept :=
  fun s _ hsilent hs h =>
    appliedStateAgrees_of_transition (s := consume s) (transition_of_step h) hsilent hs

/-! R34 (c): the derived state is that of the shadow-control bytes. -/

/-- A store elsewhere leaves the four bytes. -/
theorem shadowBytes_write_other (f : RegFile) {a : Byte} (v : Byte) (h : a ∉ shadowRegisters) :
    shadowBytes (RegFile.write f a v) = shadowBytes f := by
  have hread (x : Byte) (hx : x ∈ shadowRegisters) :
      RegFile.read (RegFile.write f a v) x = RegFile.read f x :=
    RegFile.read_write_other f a v x fun e => h (e ▸ hx)
  exact (ShadowBytes.mk.injEq ..).mpr
    ⟨hread _ (by decide), hread _ (by decide), hread _ (by decide), hread _ (by decide)⟩

/-- With the derived state and the four bytes unchanged, nothing of R34 (c) changes. -/
theorem regionsCoherent_of_same {s t : State} (hs : RegionsCoherent s)
    (hderived : SameDerivedState s t)
    (hbytes : shadowBytes t.chip.isaRegisters = shadowBytes s.chip.isaRegisters)
    (hphase : t.phase = s.phase) (hparams : t.params = s.params) : RegionsCoherent t := by
  obtain ⟨hregion, -, hwrite, hread⟩ := hderived
  rw [RegionsCoherent, hregion, hwrite, hread, hbytes, hphase, hparams]
  exact hs

theorem regionsCoherent_recalc (m : State) : RegionsCoherent (recalc m) :=
  fun _ => .inr ⟨_, rfl, rfl, rfl, .inl rfl⟩

/-- After a reset without recalculation the derived state is still that of the bytes before it. -/
theorem regionsCoherent_clearRegisters {s : State} (hlive : s.phase = .live)
    (hrecalc : s.params.resetRecalc = false) (hs : RegionsCoherent s) :
    RegionsCoherent (clearRegisters s) := by
  intro _
  obtain ⟨hregion, hwrite, hread, -⟩ | ⟨b, hregion, hwrite, hread, -⟩ := hs hlive
  · exact .inl ⟨hregion, hwrite, hread, shadowBytes_reset⟩
  · exact .inr ⟨b, hregion, hwrite, hread, .inr ⟨hrecalc, shadowBytes_reset⟩⟩

theorem shadowBytes_zero : shadowBytes RegFile.zero = zeroShadow := by decide

theorem regionsCoherent_of_transition {s t : State} (h : Transition s t) (hs : RegionsCoherent s) :
    RegionsCoherent t := by
  cases h
  case store a v hlive ha =>
    exact regionsCoherent_of_same hs ⟨rfl, rfl, rfl, rfl⟩ (shadowBytes_write_other _ _ ha) rfl rfl
  case windowWrite w x hlive hbase => cases w <;> exact hs
  case shadowWrite | smramWrite | clearRecalc => exact regionsCoherent_recalc _
  case move which v w new hlive hfit =>
    have hother : baseRegister which ∉ shadowRegisters := by cases which <;> decide
    have hstored : RegionsCoherent (maskedStore s (baseRegister which) v) :=
      regionsCoherent_of_same hs ⟨rfl, rfl, rfl, rfl⟩ (shadowBytes_write_other _ _ hother) rfl rfl
    cases w <;> exact hstored
  case clear hlive hrecalc => exact regionsCoherent_clearRegisters hlive hrecalc hs
  case construct => exact fun _ => .inl ⟨rfl, rfl, rfl, shadowBytes_zero⟩
  case fail | teardown => exact nofun
  all_goals exact hs

/-- Settles O51: a row that writes a shadow-control byte recalculates, but for a reset where RESET_RECALC
does not hold. -/
theorem regionsCoherentIsKept : Obligations.RegionsCoherentIsKept :=
  fun s _ hs h => regionsCoherent_of_transition (s := consume s) (transition_of_step h) hs

/-! Writes that recalculate. -/

/-- Settles O28: the register is stored through its own mask, and the forward and RECALC follow. -/
theorem smramWriteForwardsThenRecalculates : Obligations.SmramWriteForwardsThenRecalculates := by
  intro s v
  refine ⟨fun _ => encode_toNat_of_dataWrite rfl, fun hreg => ?_, _, exec_iowIsaDataSmram s v,
    writeIsa_isaByteBecomes s _ _, recalc_recalculated rfl, rfl, rfl⟩
  rw [hreg, primaryMask_28]

/-- Storing a byte twice is storing it once. -/
theorem write_write_same (f : RegFile) (a v : Byte) :
    RegFile.write (RegFile.write f a v) a v = RegFile.write f a v := by
  simp [RegFile.write]

/-- A shadow-control write repeated finds the record as it leaves it. -/
theorem writeSelected_recalc_writeSelected_chip (s : State) (v : Byte) :
    (writeSelected (recalc (writeSelected s v)) v).chip = (writeSelected s v).chip :=
  congrArg (fun f => { s.chip with isaRegisters := f })
    (write_write_same s.chip.isaRegisters s.chip.isaIndex _)

/-- Settles O30: both recalculations read the same four bytes. -/
theorem recalculationHasNoDrift : Obligations.RecalculationHasNoDrift := by
  intro s v _
  have hchip := writeSelected_recalc_writeSelected_chip s v
  have hbytes : shadowBytes (writeSelected (recalc (writeSelected s v)) v).chip.isaRegisters
      = shadowBytes (writeSelected s v).chip.isaRegisters := by rw [hchip]
  refine ⟨_, _, recalcEffects (shadowBytes (writeSelected s v).chip.isaRegisters),
    exec_iowIsaDataShadow s v, exec_iowIsaDataShadow _ v, rfl, ?calls, rfl,
    congrArg regionStates hbytes, congrArg shadowWriteFlag hbytes, congrArg shadowReadFlag hbytes,
    hchip⟩
  rw [recalc_trace (writeSelected (recalc _) v), hbytes]
  rfl

/-! SMRAM_REG as a parameter (R11, R101). -/

/-- The first class of R101 is that of ISA_RO alone. -/
theorem not_contains_of_not_mem {l : List Byte} {a : Byte} (h : a ∉ l) : ¬ l.contains a = true :=
  fun hmem => h (List.contains_iff_mem.1 hmem)

theorem primaryClass_of_smramReg {p : Params} {a : Byte} (hro : a ∉ p.isaRo) (hreg : a = p.smramReg)
    (hmode : a ≠ Config.modeReg) (hlo : a ≠ Config.baseLoReg) (hhi : a ≠ Config.baseHiReg) :
    primaryClass p a = .smram := by
  rw [primaryClass, if_neg (not_contains_of_not_mem hro), if_neg hmode, if_neg hlo, if_neg hhi,
    if_neg fun h => h.2 hreg, if_pos hreg]

/-- Where SMRAM_REG is another register, 0x28 is of the shadow class (log 21). -/
theorem primaryClass_28_of_other {p : Params} (hro : 0x28 ∉ p.isaRo) (hreg : p.smramReg ≠ 0x28) :
    primaryClass p 0x28 = .shadow := by
  rw [primaryClass, if_neg (not_contains_of_not_mem hro), if_neg (by decide), if_neg (by decide),
    if_neg (by decide), if_pos ⟨by decide, hreg.symm⟩]

/-- Settles O56: by the class of the selected register; at 0x28 the store is through SHADOW28_MASK. -/
theorem smramRegisterIsAParameter : Obligations.SmramRegisterIsAParameter := by
  intro s v hro
  refine ⟨fun hreg h10 h12 h13 => ?smram, fun hindex hreg => ⟨?shadow, ?write⟩⟩
  case smram =>
    rw [decodePrimaryWrite, decodeContext_params, decodeContext_isaIndex,
      primaryClass_of_smramReg hro hreg h10 h12 h13]
  case shadow =>
    rw [hindex] at hro
    rw [decodePrimaryWrite, decodeContext_params, decodeContext_isaIndex, hindex,
      primaryClass_28_of_other hro hreg]
  case write =>
    rw [exec_iowIsaDataShadow, writeSelected, hindex, primaryMask_28]
    have htrace : (writeIsa s 0x28 (v &&& s.params.shadow28Mask)).trace = s.trace ++ [] :=
      (List.append_nil _).symm
    exact ⟨_, rfl, writeIsa_isaByteBecomes s _ _, recalc_recalculated htrace, rfl, rfl⟩

end Sys2Proof.Machine
end

section
/-! PROOFS. The stops of a step and their causes (R254), the completion of a live block's transactions
(R97), the readback law through the ports (R161), and the derived state as no input of a step (R28 to
R30). -/

namespace Sys2Proof.Machine

/-! What is refused, and why. -/

/-- The four rows that can be refused, each with its reason and the cause that the state gives. -/
theorem exec_refused {s : State} {i : Instr} {r : Refusal} (h : exec i s = .refused r) :
    (∃ x, i = .notLive x ∧ r = .notLive)
    ∨ (∃ access, i = .ioConflict access ∧ r = .portConflict)
    ∨ (∃ which v w, i = baseWrite which v ∧ r = .windowWrap ∧ readIsa s 0x10 = modeOf w
        ∧ 0xFFFB < (replacedBase (window s w).base which v).toNat)
    ∨ (i = .poweron ∧ r = .badParameters ∧ s.params.wf = false) := by
  have hbase {which : BaseByte} {v : Byte} (hi : i = baseWrite which v) :
      ∃ w, r = .windowWrap ∧ readIsa s 0x10 = modeOf w
        ∧ 0xFFFB < (replacedBase (window s w).base which v).toNat := by
    rw [hi, exec_baseWrite] at h
    obtain ⟨-, hstay⟩ | ⟨w, hsel, ⟨hwrap, hrefused⟩ | ⟨-, hmove⟩⟩ :=
      relocate_cases (writeIsa s (baseRegister which) v) which v
    · cases h.symm.trans hstay
    · rw [selector_writeIsa_baseRegister, windowSelector_eq_some_iff] at hsel
      rw [window_writeIsa, newBase_eq_replacedBase] at hwrap
      cases h.symm.trans hrefused
      exact ⟨w, rfl, hsel, hwrap⟩
    · cases h.symm.trans hmove
  cases i
  case notLive x =>
    cases h
    exact .inl ⟨x, rfl, rfl⟩
  case ioConflict access =>
    cases h
    exact .inr (.inl ⟨access, rfl, rfl⟩)
  case iowIsaDataBaselo v =>
    obtain ⟨w, hw⟩ := hbase (which := .lo) rfl
    exact .inr (.inr (.inl ⟨.lo, v, w, rfl, hw⟩))
  case iowIsaDataBasehi v =>
    obtain ⟨w, hw⟩ := hbase (which := .hi) rfl
    exact .inr (.inr (.inl ⟨.hi, v, w, rfl, hw⟩))
  case poweron =>
    rw [exec_poweron] at h
    obtain ⟨hill, hrefused⟩ | ⟨-, -, hlive⟩ | ⟨-, -, hfailed⟩ := execPoweron_cases s
    · cases h.symm.trans hrefused
      exact .inr (.inr (.inr ⟨rfl, rfl, hill⟩))
    · cases h.symm.trans hlive
    · cases h.symm.trans hfailed
  all_goals cases h

/-- The condition of a base-byte row: a live block with that base register selected (R101). -/
theorem rowCondition_baseWrite {c : DecodeContext} {which : BaseByte} {v : Byte}
    (h : rowCondition c (baseWrite which v) = true) :
    c.phase = .live ∧ c.isaIndex = baseRegister which := by
  have hcond := primaryClass_condition c.params c.isaIndex
  cases which
  all_goals
    obtain ⟨hlive, -, hclass⟩ := (dataWriteCondition_iff c _).1 h
    rw [hclass] at hcond
    obtain ⟨-, hindex⟩ := hcond
    exact ⟨hlive, hindex⟩

/-- NOT_LIVE's condition (R261). -/
theorem rowCondition_notLive_iff (c : DecodeContext) (x : Transaction) :
    rowCondition c (.notLive x) = true
      ↔ (c.phase ≠ .live ∧ ¬ (x = .poweron ∧ c.phase = .absent))
        ∨ (x = .poweron ∧ c.phase ≠ .absent) := by
  simp [rowCondition, imp_iff_not_or]

/-- IO_CONFLICT's condition (R139). -/
theorem rowCondition_ioConflict_iff (c : DecodeContext) (access : IoAccess) :
    rowCondition c (.ioConflict access) = true
      ↔ c.phase = .live
        ∧ 2 ≤ (portClaims c.hostBase c.localBase (accessPort access)).length := by
  simp [rowCondition]

/-- Settles O12: no fault exists; a request that is no word and an invalid word are refused where they are
fetched, and a decoded row is refused for the cause that its condition and its operands give. -/
theorem stopsAreTheClosedList : Obligations.StopsAreTheClosedList := by
  refine ⟨fun _ f => (nomatch f), fun s r h => ?_⟩
  obtain ⟨-, hidle⟩ | ⟨w, rest, i, hinput, hdecode, hexec⟩ | ⟨w, rest, hinput, hinvalid, hrefused⟩
    | ⟨a, rest, hinput, hrefused⟩ | ⟨image, rest, hinput, hrefused⟩ := step_cases s
  · cases h.symm.trans hidle
  · obtain ⟨hcond, -, rfl⟩ := decodedRowIsTheTablesRow _ _ _ hdecode
    obtain ⟨x, rfl, rfl⟩ | ⟨access, rfl, rfl⟩ | ⟨which, v, sel, rfl, rfl, hmode, hwrap⟩
      | ⟨rfl, rfl, hill⟩ := exec_refused (hexec.symm.trans h)
    · exact .inr (.inl ⟨rfl, _, rest, x, hinput, parseWord_encodeTransaction x,
        (rowCondition_notLive_iff _ x).1 hcond⟩)
    · obtain ⟨hlive, hclaims⟩ := (rowCondition_ioConflict_iff _ access).1 hcond
      exact .inr (.inr (.inl ⟨rfl, hlive, access, rest, hinput, hclaims⟩))
    · obtain ⟨hlive, hindex⟩ := rowCondition_baseWrite hcond
      have hword : encode s.params (baseWrite which v) = encodeTransaction (.iow 0x23 v) := by
        cases which <;> rfl
      rw [decodeContext_params, hword] at hinput
      exact .inr (.inr (.inr (.inr (.inl
        ⟨rfl, hlive, which, v, rest, sel, hinput, hindex, hmode, hwrap⟩))))
    · have habsent : s.phase = .absent := beq_iff_eq.1 hcond
      exact .inr (.inr (.inr (.inr (.inr (.inr ⟨rfl, habsent, hill, rest, hinput⟩)))))
  · cases h.symm.trans hrefused
    have hbreaks : BreaksFormat w :=
      (invalidWordsAreThoseThatBreakTheFormat.1 _ w).1 hinvalid
    exact .inl ⟨rfl, w, rest, hinput, hbreaks⟩
  · cases h.symm.trans hrefused
    exact .inr (.inr (.inr (.inl ⟨rfl, a, rest, hinput⟩)))
  · cases h.symm.trans hrefused
    exact .inr (.inr (.inr (.inr (.inr (.inl ⟨rfl, image, rest, hinput⟩)))))

/-! Completion (R97). -/

/-- Transactions with the same word are the same. -/
theorem encodeTransaction_injective : Function.Injective encodeTransaction := by
  intro x y h
  have hparse := parseWord_encodeTransaction x
  rw [h, parseWord_encodeTransaction] at hparse
  exact (Option.some.inj hparse).symm

/-- Two queues with a transaction's word at the head have the same transaction there. -/
theorem transaction_of_input {s : State} {x y : Transaction} {rest rest' : List HostRequest}
    (hx : s.input = .word (encodeTransaction x) :: rest)
    (hy : s.input = .word (encodeTransaction y) :: rest') : x = y := by
  have hheads := hx.symm.trans hy
  injection hheads with hhead
  injection hhead with hword
  exact encodeTransaction_injective hword

/-- Settles O13: no step faults, and the conditions rule out every cause of a refusal. -/
theorem liveBlockCompletes : Obligations.LiveBlockCompletes := by
  intro s x rest hlive hinput hpoweron hclaims hfit
  obtain ⟨hnofault, hstops⟩ := stopsAreTheClosedList
  cases hstep : step s with
  | next t => exact ⟨t, rfl⟩
  | fault f => exact absurd hstep (hnofault s f)
  | refused r =>
    exfalso
    obtain ⟨-, w, rest', hw, hbreaks⟩ | ⟨-, w, rest', y, hw, hparse, hdead⟩
      | ⟨-, -, access, rest', hw, hconflict⟩ | ⟨-, a, rest', hw⟩
      | ⟨-, -, which, v, rest', sel, hw, hindex, hmode, hwrap⟩ | ⟨-, image, rest', hw⟩
      | ⟨-, habsent, -, -⟩ := hstops s r hstep
    · cases hinput.symm.trans hw
      rw [← parseWord_eq_none_iff, parseWord_encodeTransaction] at hbreaks
      cases hbreaks
    · cases hinput.symm.trans hw
      cases (parseWord_encodeTransaction x).symm.trans hparse
      obtain ⟨hnotlive, -⟩ | ⟨hpower, -⟩ := hdead
      · exact hnotlive hlive
      · exact hpoweron hpower
    · have hle := hclaims access (transaction_of_input hinput hw)
      omega
    · cases hinput.symm.trans hw
    · have hle := hfit v (transaction_of_input hinput hw) which sel hindex hmode
      omega
    · cases hinput.symm.trans hw
    · cases hlive.symm.trans habsent

/-! The readback law through the ports (R161, R105). -/

/-- The step on a write of port 0x22 that the primary window alone claims. -/
theorem step_of_indexWrite {s : State} {a : Byte} {rest : List HostRequest} (hlive : s.phase = .live)
    (hclaims : (portClaims s.chip.hostWin.base s.chip.localWin.base 0x22).length = 1)
    (hinput : s.input = .word (encodeTransaction (.iow 0x22 a)) :: rest) :
    step s = .next (writeIsaIndex (consume s) a) := by
  have hsole : portClaims s.chip.hostWin.base s.chip.localWin.base 0x22 = [(.primary, 0)] :=
    (solePrimaryClaim_indexPort_iff (decodeContext s)).1 (beq_iff_eq.2 hclaims)
  have hrow : decodeTransaction (decodeContext s) (.iow 0x22 a) = .iowIsaIndex a := by
    simp only [decodeTransaction, decodeContext_phase, hlive, decodeIoWrite, decodeContext_hostBase,
      decodeContext_localBase, hsole]
  rw [step_of_transaction hinput, hrow]
  rfl

/-- The step on a write of port 0x23 that the primary window alone claims. -/
theorem step_of_dataWrite {s : State} {v : Byte} {rest : List HostRequest} (hlive : s.phase = .live)
    (hclaims : (portClaims s.chip.hostWin.base s.chip.localWin.base 0x23).length = 1)
    (hinput : s.input = .word (encodeTransaction (.iow 0x23 v)) :: rest) :
    step s = exec (decodePrimaryWrite (decodeContext (consume s)) v) (consume s) := by
  have hsole : portClaims s.chip.hostWin.base s.chip.localWin.base 0x23 = [(.primary, 1)] :=
    (solePrimaryClaim_dataPort_iff (decodeContext s)).1 (beq_iff_eq.2 hclaims)
  have hrow : decodeTransaction (decodeContext s) (.iow 0x23 v)
      = decodePrimaryWrite (decodeContext s) v := by
    simp only [decodeTransaction, decodeContext_phase, hlive, decodeIoWrite, decodeContext_hostBase,
      decodeContext_localBase, hsole]
  rw [step_of_transaction hinput, hrow, decodeContext_consume]

/-- The step on a read of port 0x23 that the primary window alone claims. -/
theorem step_of_dataRead {s : State} {rest : List HostRequest} (hlive : s.phase = .live)
    (hclaims : (portClaims s.chip.hostWin.base s.chip.localWin.base 0x23).length = 1)
    (hinput : s.input = .word (encodeTransaction (.ior 0x23)) :: rest) :
    step s = .next (answer (consume s) (.byte (readIsa s s.chip.isaIndex))) := by
  have hsole : portClaims s.chip.hostWin.base s.chip.localWin.base 0x23 = [(.primary, 1)] :=
    (solePrimaryClaim_dataPort_iff (decodeContext s)).1 (beq_iff_eq.2 hclaims)
  have hrow : decodeTransaction (decodeContext s) (.ior 0x23) = .iorIsaData := by
    simp only [decodeTransaction, decodeContext_phase, hlive, decodeIoRead, decodeContext_hostBase,
      decodeContext_localBase, hsole]
  rw [step_of_transaction hinput, hrow]
  rfl

/-- A base-byte write with no window selected is a store alone (R206). -/
theorem baseWrite_completes_unselected {s : State} (which : BaseByte) (v : Byte)
    (h : windowSelector (readIsa s 0x10) = none) :
    ∃ t, exec (baseWrite which v) s = .next t ∧ OnlyShadowState s t := by
  rw [← selector_writeIsa_baseRegister s which v] at h
  exact ⟨_, (exec_baseWrite s which v).trans (relocate_of_none which v h), rfl⟩

/-- A primary data write that selects no window's base, or none of the windows, completes, and changes
nothing but the primary registers and what a recalculation or a forward writes. -/
theorem dataWrite_completes_unmoved {s : State} (v : Byte)
    (h : (s.chip.isaIndex ≠ 0x12 ∧ s.chip.isaIndex ≠ 0x13)
      ∨ windowSelector (readIsa s 0x10) = none) :
    ∃ t, exec (decodePrimaryWrite (decodeContext s) v) s = .next t ∧ OnlyShadowState s t := by
  have hcond := primaryClass_condition s.params s.chip.isaIndex
  rw [decodePrimaryWrite, decodeContext_params, decodeContext_isaIndex]
  generalize primaryClass s.params s.chip.isaIndex = k at hcond
  cases k with
  | baselo =>
    obtain ⟨-, hindex⟩ := hcond
    exact baseWrite_completes_unselected .lo v (h.resolve_left fun hne => hne.1 hindex)
  | basehi =>
    obtain ⟨-, hindex⟩ := hcond
    exact baseWrite_completes_unselected .hi v (h.resolve_left fun hne => hne.2 hindex)
  | ro | modesel | shadow | smram | masked | plain => exact ⟨_, rfl, rfl⟩

/-- Such a write keeps what a following transaction meets. -/
theorem onlyShadowState_keeps {s t : State} (h : OnlyShadowState s t) :
    t.phase = s.phase ∧ t.input = s.input ∧ t.readData = s.readData
    ∧ t.chip.hostWin = s.chip.hostWin ∧ t.chip.localWin = s.chip.localWin := by
  unfold OnlyShadowState at h
  exact ⟨by rw [h], by rw [h], by rw [h], by rw [h], by rw [h]⟩

/-- A step that completes is the first of a run. -/
theorem core_run_succ {s m : State} (n : Nat) (h : step s = .next m) :
    core.run (n + 1) s = core.run n m := by
  have hcore : core.step s = .next m := h
  simp only [Host.Core.run, hcore]

/-- A data write through port 0x23 of a register `a` selected before: where it moves no window, it
completes, leaves the read data and the windows, and the register holds what R161 says. -/
theorem step_of_dataWrite_unmoved {s : State} {a v : Byte} {rest : List HostRequest}
    (hlive : s.phase = .live) (hindex : s.chip.isaIndex = a)
    (hclaims : (portClaims s.chip.hostWin.base s.chip.localWin.base 0x23).length = 1)
    (hbase : (a ≠ 0x12 ∧ a ≠ 0x13) ∨ (readIsa s 0x10 ≠ 0x06 ∧ readIsa s 0x10 ≠ 0x07))
    (hinput : s.input = .word (encodeTransaction (.iow 0x23 v)) :: rest) :
    ∃ t, step s = .next t ∧ t.phase = .live ∧ t.input = rest ∧ t.readData = s.readData
      ∧ t.chip.hostWin = s.chip.hostWin ∧ t.chip.localWin = s.chip.localWin
      ∧ readIsa t a = if a ∈ s.params.isaRo then readIsa s a else v &&& primaryMask s.params a := by
  subst hindex
  have hunselected := hbase.imp id (windowSelector_eq_none_iff (readIsa s 0x10)).2
  obtain ⟨t, hwrite, honly⟩ := dataWrite_completes_unmoved (s := consume s) v hunselected
  obtain ⟨hphase, hqueue, hdata, hhost, hlocal⟩ := onlyShadowState_keeps honly
  obtain ⟨-, hregs⟩ := dataWrite_next_primary hwrite
  refine ⟨t, (step_of_dataWrite hlive hclaims hinput).trans hwrite, hphase.trans hlive, ?_, hdata,
    hhost, hlocal, ?_⟩
  · rw [hqueue, consume_input, hinput, List.tail_cons]
  · rw [readIsa, hregs, consume_chip, consume_params]
    split
    · rfl
    · rw [RegFile.read_write_same]

/-- Settles O34: the two index writes and the data write leave the windows, so that each word meets the
primary window's claim alone; the read answers the byte that the data write left. -/
theorem readbackThroughThePorts : Obligations.ReadbackThroughThePorts := by
  intro s a v rest hlive hindexPort hdataPort hbase hinput
  have hselect := step_of_indexWrite hlive hindexPort hinput
  obtain ⟨m, hwrite, hmlive, hminput, hmdata, hmhost, hmlocal, hbyte⟩ :=
    step_of_dataWrite_unmoved (s := writeIsaIndex (consume s) a) hlive rfl hdataPort hbase
      (congrArg List.tail hinput)
  rw [writeIsaIndex_hostWin, consume_chip] at hmhost
  rw [writeIsaIndex_localWin, consume_chip] at hmlocal
  rw [← hmhost, ← hmlocal] at hindexPort hdataPort
  have hselectAgain := step_of_indexWrite hmlive hindexPort hminput
  have hread := step_of_dataRead (s := writeIsaIndex (consume m) a) hmlive hdataPort
    (congrArg List.tail hminput)
  have hrun : core.run 4 s
      = .next (answer (consume (writeIsaIndex (consume m) a)) (.byte (readIsa m a))) := by
    rw [core_run_succ 3 hselect, core_run_succ 2 hwrite, core_run_succ 1 hselectAgain,
      core_run_succ 0 hread]
    rfl
  have hqueue : m.input.tail.tail = rest := by rw [hminput, List.tail_cons, List.tail_cons]
  refine ⟨_, hrun, ?_, hqueue⟩
  rw [answer_readData, consume_readData, writeIsaIndex_readData, consume_readData, hmdata]
  exact congrArg (fun b => s.readData ++ [.byte b]) hbyte

/-! The derived state is no input of a step (R28 to R30). -/

/-- The state with another derived state. -/
def withDerived (s : State) (region : Vector RegionStatus 13) (smram : SmramStatus) (wa ra : Bool) :
    State :=
  { s with region := region, smramVisible := smram, shadowWriteAny := wa, shadowReadAny := ra }

/-- `u` and `t` are alike in all that a step shows of a state. -/
def SameShown (t u : State) : Prop :=
  u.chip = t.chip ∧ u.phase = t.phase ∧ u.trace = t.trace ∧ u.readData = t.readData
  ∧ u.draws = t.draws

theorem relocate_withDerived {s t : State} {which : BaseByte} {v : Byte}
    (h : relocate s which v = .next t) (region : Vector RegionStatus 13) (smram : SmramStatus)
    (wa ra : Bool) :
    ∃ u, relocate (withDerived s region smram wa ra) which v = .next u ∧ SameShown t u := by
  obtain ⟨hsel, hstay⟩ | ⟨w, hsel, ⟨-, hrefused⟩ | ⟨hfit, hmove⟩⟩ := relocate_cases s which v
  · cases h.symm.trans hstay
    exact ⟨_, relocate_of_none which v hsel, rfl, rfl, rfl, rfl, rfl⟩
  · cases h.symm.trans hrefused
  · cases h.symm.trans hmove
    cases w
    all_goals
      exact ⟨_, relocate_of_fits (s := withDerived s region smram wa ra) hsel hfit,
        rfl, rfl, rfl, rfl, rfl⟩

theorem execPoweron_withDerived {s t : State} (h : execPoweron s = .next t)
    (region : Vector RegionStatus 13) (smram : SmramStatus) (wa ra : Bool) :
    ∃ u, execPoweron (withDerived s region smram wa ra) = .next u ∧ SameShown t u := by
  obtain ⟨-, hrefused⟩ | ⟨hwf, hdraw, hlive⟩ | ⟨hwf, hdraw, hfailed⟩ := execPoweron_cases s
  · cases h.symm.trans hrefused
  · cases h.symm.trans hlive
    exact ⟨_, (if_pos hwf).trans (if_pos hdraw), rfl, rfl, rfl, rfl, rfl⟩
  · cases h.symm.trans hfailed
    exact ⟨_, (if_pos hwf).trans (if_neg (Bool.eq_false_iff.1 hdraw)), rfl, rfl, rfl, rfl, rfl⟩

theorem systemReset_withDerived (s : State) (region : Vector RegionStatus 13) (smram : SmramStatus)
    (wa ra : Bool) :
    SameShown (systemReset s) (systemReset (withDerived s region smram wa ra)) := by
  obtain ⟨hrecalc, hreset⟩ | ⟨hrecalc, hreset⟩ := systemReset_cases s
  all_goals
    obtain ⟨hother, hotherReset⟩ | ⟨hother, hotherReset⟩ :=
      systemReset_cases (withDerived s region smram wa ra)
  case inl.inl | inr.inr =>
    rw [hreset, hotherReset]
    exact ⟨rfl, rfl, rfl, rfl, rfl⟩
  all_goals cases hrecalc.symm.trans hother

/-- Row by row: a relocation, a construction and a reset decide by the record, the parameters and the
draws; every other row decides nothing. -/
theorem exec_withDerived {s t : State} {i : Instr} (h : exec i s = .next t)
    (region : Vector RegionStatus 13) (smram : SmramStatus) (wa ra : Bool) :
    ∃ u, exec i (withDerived s region smram wa ra) = .next u ∧ SameShown t u := by
  cases i
  case iowIsaDataBaselo | iowIsaDataBasehi => exact relocate_withDerived h region smram wa ra
  case poweron => exact execPoweron_withDerived h region smram wa ra
  case reset =>
    cases h
    exact ⟨_, exec_reset _, systemReset_withDerived s region smram wa ra⟩
  case ioConflict | notLive => cases h
  all_goals
    cases h
    exact ⟨_, rfl, rfl, rfl, rfl, rfl, rfl⟩

/-- Settles O17: decode reads the context of R98, which holds nothing of the derived state, and no row
reads any of it. -/
theorem derivedStateIsNeverRead : Obligations.DerivedStateIsNeverRead := by
  intro s t region smram wa ra h
  change ∃ u, step (withDerived s region smram wa ra) = .next u ∧ SameShown t u
  obtain ⟨hidle, rfl⟩ | ⟨w, rest, i, hinput, hdecode, hexec⟩ := step_next s t h
  · exact ⟨_, idleAndUnsupportedRequests.1 (withDerived t region smram wa ra) hidle,
      rfl, rfl, rfl, rfl, rfl⟩
  · obtain ⟨x, hparse, rfl⟩ := transaction_of_decode hdecode
    obtain ⟨u, hu, hshown⟩ := exec_withDerived hexec region smram wa ra
    have hstep := step_of_parseWord (s := withDerived s region smram wa ra) hinput hparse
    exact ⟨u, hstep.trans hu, hshown⟩

end Sys2Proof.Machine
end

section
/-! PROOFS. The state right after reset (R39): its values, its construction, and the invariants it meets;
and a window's base as its two bytes (R67). -/

namespace Sys2Proof.Machine

/-! A base from its two bytes. -/

/-- Settles O26: each write replaces its own half of the base. -/
theorem bothBaseBytesMakeTheBase : Obligations.BothBaseBytesMakeTheBase := by
  intro old l h
  have hl := l.isLt
  simp only [newBase_hi_toNat, newBase_lo_toNat]
  omega

/-! The reset state is reached from the absent block by a construction and a reset (R270, R272). -/

/-- The state of a block just constructed on the machine's own parameters. -/
def constructedState : State :=
  construct (drawConstruction (State.absent Config.params))

theorem systemReset_constructedState : systemReset constructedState = State.reset := by
  obtain ⟨hrecalc, hreset⟩ | ⟨hrecalc, hreset⟩ := systemReset_cases constructedState
  all_goals
    have hparam : Config.params.resetRecalc = _ := hrecalc
    rw [hreset]
    simp only [State.reset, hparam, if_true, if_false, Bool.false_eq_true]
    rfl

/-- Settles O46, with and without RESET_RECALC. -/
theorem resetStateFollowsConstruction : Obligations.ResetStateFollowsConstruction :=
  (exec_reset constructedState).trans (congrArg Host.Outcome.next systemReset_constructedState)

/-- The regions of the reset state: passthrough where the reset recalculated, unknown otherwise. -/
theorem reset_region (k : Fin 13) :
    State.reset.region[k]
      = if Config.params.resetRecalc then .applied .readPassthrough .writePassthrough
        else .unknown := by
  have hregion : State.reset.region
      = if Config.params.resetRecalc then regionStates (shadowBytes resetRegisters)
        else unknownRegions := rfl
  rw [hregion, shadowBytes_reset]
  split
  · exact regionStates_zeroShadow k
  · exact unknownRegions_get k

/-- Settles O45: the record is that of a construction with the primary registers of a reset. -/
theorem resetStateHasTheRulesValues : Obligations.ResetStateHasTheRulesValues := by
  refine ⟨rfl, rfl, read_resetRegisters, fun w => ?windows, read_constructionPci Config.params,
    reset_region, rfl, rfl, rfl⟩
  case windows => cases w <;> exact ⟨rfl, rfl, RegFile.read_zero⟩

/-! The invariants together. -/

/-- All the invariants that every step keeps. -/
def MeetsInvariants (s : State) : Prop :=
  SilentUnlessConstructed s ∧ RegistrationsAgree s ∧ NeverDoubleRegistered s ∧ PciRegistrationsAgree s
  ∧ AppliedStateAgrees s ∧ RegionsCoherent s ∧ MaskedBitsZero s ∧ LiveParametersWellFormed s
  ∧ PciBytesProtected s ∧ WindowsFit s

theorem meetsInvariants_of_transition {s t : State} (h : Transition s t) (hs : MeetsInvariants s) :
    MeetsInvariants t := by
  obtain ⟨hsilent, hports, hdouble, hunits, happlied, hcoherent, hmasked, hwf, hbytes, hfit⟩ := hs
  exact ⟨silentUnlessConstructed_of_transition h hsilent,
    registrationsAgree_of_transition h hsilent hports,
    neverDoubleRegistered_of_transition h hsilent hports hdouble,
    pciRegistrationsAgree_of_transition h hunits, appliedStateAgrees_of_transition h hsilent happlied,
    regionsCoherent_of_transition h hcoherent, maskedBitsZero_of_transition h hmasked,
    liveParametersWellFormed_of_transition h hwf, pciBytesProtected_of_transition h hwf hbytes,
    windowsFit_of_transition h hfit⟩

/-- Before construction nothing was called, and no invariant of a live block asks for anything. -/
theorem meetsInvariants_absent (p : Params) : MeetsInvariants (State.absent p) := by
  refine ⟨fun _ => rfl, fun o => ?ports, holdsAtMostOne_nil, rfl,
    ⟨fun r _ => unknownRegions_get r.k, rfl⟩, nofun, nofun, nofun, nofun, nofun⟩
  case ports => exact (expectedRanges_of_not_live (s := State.absent p) nofun o).symm

/-- The machine's own parameters are well formed: the four decided ones break no clause (R11, R12). -/
theorem params_wf : Config.params.wf = true := by
  have h := Config.parameters.wf
  simp only [Params.wf, Bool.and_eq_true] at h ⊢
  obtain ⟨hfixed, -⟩ := h
  exact ⟨hfixed, rfl⟩

/-- Settles O55: the absent block meets the invariants, and a construction and a reset keep them. -/
theorem resetStateMeetsTheInvariants : Obligations.ResetStateMeetsTheInvariants := by
  have hconstruct : Transition (State.absent Config.params) constructedState :=
    .construct rfl params_wf
  have hreset : Transition constructedState State.reset :=
    systemReset_constructedState ▸ transition_systemReset rfl
  exact meetsInvariants_of_transition hreset
    (meetsInvariants_of_transition hconstruct (meetsInvariants_absent Config.params))

end Sys2Proof.Machine
end
